-- ==== Sys2Proof/Word.lean ====
section
/-! DEFINITION. The two word sizes of the core: the 32-bit register word and the byte (spec/00_scope.md §4, R5, R7). -/

namespace Sys2Proof

/-- A 32-bit register word. All words are unsigned and addition wraps (R7, R117). -/
abbrev Word := BitVec 32

/-- One byte of a key, a block, a mask or an S-box. -/
abbrev Byte := BitVec 8

end Sys2Proof
end

