-- ==== Sys2Proof/Config.lean ====
section
/-! DEFINITION. The open parameters of the core (R4): what an implementation or a platform fixes and the spec does
not. Each is a constant with no body, so that nothing proved here rests on a value of it. -/

namespace Sys2Proof

/-- `P_BASE` divided by 256: the window is 256-byte aligned (R4), so the base is 256 times some number.
UNCONSTRAINED parameter of the platform (U12); DESIGN CHOICE in notes/assumptions/1.md. -/
opaque Config.pBasePage : Nat

/-- `P_BASE`, the bus address of the register window, 256-byte aligned (R4, R22). -/
def Config.pBase : Nat := 256 * Config.pBasePage

/-- `P_CORE_ID`, the 32-bit value the ID register always reads (R27, U13; notes/assumptions/2.md). -/
opaque Config.pCoreId : Word

/-- The ten latency parameters of R4, by the names of R235. -/
inductive Latency where
  /-- `LAT_NOP` -/
  | nop
  /-- `LAT_SQ_KEY` -/
  | sqKey
  /-- `LAT_SQ_CRYPT` -/
  | sqCrypt
  /-- `LAT_SQ_CLEAR` -/
  | sqClear
  /-- `LAT_TF_KEY` -/
  | tfKey
  /-- `LAT_TF_CRYPT` -/
  | tfCrypt
  /-- `LAT_TF_CLEAR` -/
  | tfClear
  /-- `LAT_SHA1` -/
  | sha1
  /-- `LAT_SHA256` -/
  | sha256
  /-- `LAT_CLEAR_ALL` -/
  | clearAll
  deriving DecidableEq, Repr

/-- One less than each latency: a latency is a positive finite integer fixed per implementation (R235, U11). -/
opaque Config.latencyLessOne : Latency → Nat

/-- The value of a latency parameter, in core clock cycles: positive and finite, independent of key and data (R235). -/
def Config.latency (l : Latency) : Nat := Config.latencyLessOne l + 1

end Sys2Proof
end

