-- ==== Sys2Proof/Syntax.lean ====
section
/-! DEFINITION. The commands of the core: one constructor per row of spec/opcode_table.json (R93). -/

namespace Sys2Proof

/-- The twelve operations of R93. Operands are implicit (R92); only TF_KEY has a field, the 2-bit KLEN (R94). -/
inductive Instr where
  /-- NOP, OP 0x00 (R232). -/
  | nop
  /-- SQ_KEY, OP 0x01: load the Square key schedule (R150). -/
  | sqKey
  /-- SQ_ENC, OP 0x02: encrypt one block with Square (R151). -/
  | sqEnc
  /-- SQ_DEC, OP 0x03: decrypt one block with Square (R152). -/
  | sqDec
  /-- SQ_CLEAR, OP 0x04: zero the Square schedule (R153). -/
  | sqClear
  /-- TF_KEY, OP 0x11: load the Twofish key schedule; `klen` is CMD[9:8] (R94, R190). -/
  | tfKey (klen : BitVec 2)
  /-- TF_ENC, OP 0x12: encrypt one block with Twofish (R191). -/
  | tfEnc
  /-- TF_DEC, OP 0x13: decrypt one block with Twofish (R192). -/
  | tfDec
  /-- TF_CLEAR, OP 0x14: zero the Twofish schedule (R193). -/
  | tfClear
  /-- SHA1_COMP, OP 0x21: compress one block with SHA-1 (R214). -/
  | sha1Comp
  /-- SHA256_COMP, OP 0x22: compress one block with SHA-256 (R219). -/
  | sha256Comp
  /-- CLEAR_ALL, OP 0x3F: zero every secret and every data register (R233). -/
  | clearAll
  deriving DecidableEq, Repr

end Sys2Proof
end

