-- ==== Sys2Proof/WellFormed.lean ====
section
/-! DEFINITION. Which command terms the encoding can name as an operation (R94, R98). -/

namespace Sys2Proof

/-- KLEN selects a key length: 0b00, 0b01 and 0b10 do, 0b11 does not (R94). -/
abbrev KlenSupported (klen : BitVec 2) : Prop := klen ≠ 0b11#2

/-- A well-formed command is one that `Decode` answers as `Op(op, klen)` (R98): the one check is that TF_KEY's
KLEN is not 0b11, the length the core rejects with BAD_KLEN (R262). -/
abbrev Instr.WellFormed (i : Instr) : Prop :=
  match i with
  | .nop => True
  | .sqKey => True
  | .sqEnc => True
  | .sqDec => True
  | .sqClear => True
  | .tfKey klen => KlenSupported klen
  | .tfEnc => True
  | .tfDec => True
  | .tfClear => True
  | .sha1Comp => True
  | .sha256Comp => True
  | .clearAll => True

end Sys2Proof
end

