-- ==== Sys2Proof/Decode.lean ====
section
/-! DEFINITION. The command decoder (R90, R93-R98), total on all 2^32 words, and the encoder beside it. -/

namespace Sys2Proof

/-- What `Decode` answers on a command word (R98): one operation with its KLEN, or the name of the rejection. -/
inductive Decoded where
  /-- A legal command. -/
  | op (i : Instr)
  /-- Not a legal encoding (R95, R96, R97); the core rejects it with ILLEGAL_CMD (R261). -/
  | illegal
  /-- TF_KEY with KLEN = 0b11; the core rejects it with BAD_KLEN (R262). -/
  | badKlen
  deriving DecidableEq, Repr

/-- OP, bits 7:0 of a command word (R90). -/
def opField (c : Word) : Byte := c.extractLsb' 0 8

/-- KLEN, bits 9:8 of a command word (R90). -/
def klenField (c : Word) : BitVec 2 := c.extractLsb' 8 2

/-- RSVD, bits 31:10 of a command word (R90). -/
def rsvdField (c : Word) : BitVec 22 := c.extractLsb' 10 22

/-- A command other than TF_KEY must have KLEN = 0b00 (R95). -/
def withoutKlen (klen : BitVec 2) (i : Instr) : Decoded :=
  if klen = 0b00#2 then .op i else .illegal

/-- The twelve assigned OP values; every other one is illegal (R93, R97). -/
def decodeFields (op : Byte) (klen : BitVec 2) : Decoded :=
  if op = 0x00#8 then withoutKlen klen .nop
  else if op = 0x01#8 then withoutKlen klen .sqKey
  else if op = 0x02#8 then withoutKlen klen .sqEnc
  else if op = 0x03#8 then withoutKlen klen .sqDec
  else if op = 0x04#8 then withoutKlen klen .sqClear
  else if op = 0x11#8 then (if klen = 0b11#2 then .badKlen else .op (.tfKey klen))
  else if op = 0x12#8 then withoutKlen klen .tfEnc
  else if op = 0x13#8 then withoutKlen klen .tfDec
  else if op = 0x14#8 then withoutKlen klen .tfClear
  else if op = 0x21#8 then withoutKlen klen .sha1Comp
  else if op = 0x22#8 then withoutKlen klen .sha256Comp
  else if op = 0x3F#8 then withoutKlen klen .clearAll
  else .illegal

/-- `Decode(c)` (R98): RSVD first, then OP and KLEN. -/
def decode (c : Word) : Decoded :=
  if rsvdField c = 0#22 then decodeFields (opField c) (klenField c) else .illegal

/-- The OP value of a command (R93). -/
def Instr.op (i : Instr) : Byte :=
  match i with
  | .nop => 0x00
  | .sqKey => 0x01
  | .sqEnc => 0x02
  | .sqDec => 0x03
  | .sqClear => 0x04
  | .tfKey _ => 0x11
  | .tfEnc => 0x12
  | .tfDec => 0x13
  | .tfClear => 0x14
  | .sha1Comp => 0x21
  | .sha256Comp => 0x22
  | .clearAll => 0x3F

/-- The KLEN field of a command: TF_KEY's own, 0b00 for every other operation (R90). -/
def Instr.klen (i : Instr) : BitVec 2 :=
  match i with
  | .nop => 0b00
  | .sqKey => 0b00
  | .sqEnc => 0b00
  | .sqDec => 0b00
  | .sqClear => 0b00
  | .tfKey klen => klen
  | .tfEnc => 0b00
  | .tfDec => 0b00
  | .tfClear => 0b00
  | .sha1Comp => 0b00
  | .sha256Comp => 0b00
  | .clearAll => 0b00

/-- The command word of an instruction: 22 reserved zeros, KLEN, OP (R90, R93). A command is one word (R91). -/
def encode (i : Instr) : Word := (0#22 ++ i.klen) ++ i.op

/-- The host's question: the instruction the decoder reads from the bits `w` of an instruction of `nbits` bits.
A command is one 32-bit word moved whole (R63, R91), so bits from 32 on are bits no command has. -/
def decodeTableWord (nbits w : Nat) : Option Instr :=
  if w % 2 ^ nbits < 2 ^ 32 then
    match decode (BitVec.ofNat 32 (w % 2 ^ nbits)) with
    | .op i => some i
    | .illegal => none
    | .badKlen => none
  else none

end Sys2Proof
end

