-- ==== Sys2Proof/Machine/State.lean ====
section
/-! DEFINITION. The state of the core (spec/10_state.md), the events that change it (R74, R237), the reasons a step
could stop, and the state right after reset (R48). Plain data only. -/

namespace Sys2Proof.Machine

/-- The error codes of R260. Codes 0x5-0xF are reserved and never produced (U7), so they have no constructor
(notes/assumptions/10.md). -/
inductive ErrCode where
  /-- 0x0: no error since ERR was last cleared. -/
  | none
  /-- 0x1: the CMD word is not a legal encoding (R261). -/
  | illegalCmd
  /-- 0x2: TF_KEY with KLEN = 0b11 (R262). -/
  | badKlen
  /-- 0x3: a cipher command on an engine with no schedule (R264). -/
  | notKeyed
  /-- 0x4: a CMD write while a command is in flight (R263). -/
  | cmdBusy
  deriving DecidableEq, Repr

/-- The key snapshot of TF_KEY by key length (R43, R94): KLEN and the KEY registers it selects. -/
inductive TwofishKey where
  /-- KLEN 0b00: KEY0-KEY3. -/
  | bits128 (words : Vector Word 4)
  /-- KLEN 0b01: KEY0-KEY5. -/
  | bits192 (words : Vector Word 6)
  /-- KLEN 0b10: KEY0-KEY7. -/
  | bits256 (words : Vector Word 8)
  deriving DecidableEq, Repr

/-- The command in flight, `(op, klen, snap)` of R42: the operation with exactly the operands R43 snapshots
(notes/assumptions/9.md). -/
inductive Flight where
  /-- NOP, no snapshot. -/
  | nop
  /-- SQ_KEY with KEY0-KEY3. -/
  | sqKey (key : Vector Word 4)
  /-- SQ_ENC with DIN0-DIN3. -/
  | sqEnc (din : Vector Word 4)
  /-- SQ_DEC with DIN0-DIN3. -/
  | sqDec (din : Vector Word 4)
  /-- SQ_CLEAR, no snapshot. -/
  | sqClear
  /-- TF_KEY with KLEN and the KEY registers it selects. -/
  | tfKey (key : TwofishKey)
  /-- TF_ENC with DIN0-DIN3. -/
  | tfEnc (din : Vector Word 4)
  /-- TF_DEC with DIN0-DIN3. -/
  | tfDec (din : Vector Word 4)
  /-- TF_CLEAR, no snapshot. -/
  | tfClear
  /-- SHA1_COMP with DIG0-DIG4 and MSG0-MSG15. -/
  | sha1Comp (dig : Vector Word 5) (msg : Vector Word 16)
  /-- SHA256_COMP with DIG0-DIG7 and MSG0-MSG15. -/
  | sha256Comp (dig : Vector Word 8) (msg : Vector Word 16)
  /-- CLEAR_ALL, no snapshot. -/
  | clearAll
  deriving DecidableEq, Repr

/-- The sequencer state SEQ (R21, R42), the core's analogue of a program counter. -/
inductive Seq where
  /-- No command in flight. -/
  | idle
  /-- One command in flight. -/
  | busy (flight : Flight)
  deriving DecidableEq, Repr

/-- The Square engine's schedule arrays (R39). -/
structure SquareSchedule where
  /-- SQ_EK: encryption round keys. -/
  ek : Vector Word 32
  /-- SQ_DK: decryption round keys. -/
  dk : Vector Word 32
  /-- SQ_ME: encryption input mask (bytes 0..15) and output mask (bytes 16..31). -/
  me : Vector Byte 32
  /-- SQ_MD: decryption input mask (bytes 0..15) and output mask (bytes 16..31). -/
  md : Vector Byte 32
  deriving DecidableEq, Repr

/-- The Twofish engine's schedule arrays (R40). -/
structure TwofishSchedule where
  /-- TF_RK: round keys K0..K39. -/
  rk : Vector Word 40
  /-- TF_SB: the four key-dependent S-boxes with the MDS matrix folded in. -/
  sb : Vector (Vector Word 256) 4
  deriving DecidableEq, Repr

/-- An event of the core's total order (R74, R237). `off` is the byte offset of the access in the window,
`addr - P_BASE` of R62; an access outside the window never reaches the core (U9). -/
inductive Event where
  /-- A host read of `size` bytes at `off`. -/
  | hostRead (off : BitVec 8) (size : Nat)
  /-- A host write of `size` bytes of value `v` at `off`. -/
  | hostWrite (off : BitVec 8) (size : Nat) (v : Word)
  /-- The sequencer's commit, at the point the environment's order gives it (R236); not enabled when SEQ is IDLE. -/
  | commit
  /-- The reset input RST changes to `level` (R290): `true` asserts it, `false` releases it. -/
  | rst (level : Bool)
  deriving DecidableEq, Repr

/-- The core's answer to a host access: the model's own record, not a register (notes/assumptions/6.md). -/
inductive Response where
  /-- No access has been answered since reset. -/
  | none
  /-- A read completed and returned `v` (R67). -/
  | data (v : Word)
  /-- A write completed normally on the bus (R68, R71). -/
  | written
  /-- `raise BusError(addr)`: the access was refused with an error response (R62); `off` is `addr - P_BASE`. -/
  | busError (off : BitVec 8)
  /-- RST was held: the core does not answer, and what the bus returns is the platform's (R290, U10). -/
  | unanswered
  deriving DecidableEq, Repr

/-- The whole state of the core (R22-R48), with the model's own `response` and `inputs`. BUSY, IRQ, CMD and ID are not
fields: BUSY and IRQ are derived (R44, R45), CMD stores nothing (R30) and ID reads `P_CORE_ID` (R27). -/
structure State where
  /-- CTRL.IE (R29). -/
  ie : Bool
  /-- STATUS.DONE (R32). -/
  done : Bool
  /-- STATUS.ERR (R33). -/
  err : Bool
  /-- STATUS.ERRCODE (R37). -/
  errcode : ErrCode
  /-- KEY0-KEY7 (R23). -/
  key : Vector Word 8
  /-- DIN0-DIN3 (R24). -/
  din : Vector Word 4
  /-- DOUT0-DOUT3 (R25). -/
  dout : Vector Word 4
  /-- DIG0-DIG7 (R26). -/
  dig : Vector Word 8
  /-- MSG0-MSG15 (R28). -/
  msg : Vector Word 16
  /-- SQ_EK, SQ_DK, SQ_ME, SQ_MD (R39). -/
  sq : SquareSchedule
  /-- `sq_keyed`, STATUS.SQ_KEYED (R34, R39). -/
  sqKeyed : Bool
  /-- TF_RK, TF_SB (R40). -/
  tf : TwofishSchedule
  /-- `tf_keyed`, STATUS.TF_KEYED (R35, R40). -/
  tfKeyed : Bool
  /-- `tf_klen`, STATUS.TF_KLEN (R36, R40). -/
  tfKlen : BitVec 2
  /-- SEQ with the snapshot of the command in flight (R42, R43). -/
  seq : Seq
  /-- The level of the reset input RST (R290). -/
  rst : Bool
  /-- The answer to the last host access: the model's own field. -/
  response : Response
  /-- The events still to come, oldest first, in the total order of R74: the model's own field. -/
  inputs : List Event
  deriving DecidableEq, Repr

/-- A reason the machine would stop with a fault (notes/assumptions/14.md). It has no constructor: the core has no fatal state, every rejection
and every bus error is recorded or answered and the core stays usable (R267-R269, R288, U26). Safe: no step faults,
and a claim that none does is a theorem about every step. -/
inductive Fault where
  deriving DecidableEq, Repr

/-- A reason the model would give an instruction no meaning. -/
inductive Refusal where
  /-- Raised by an arm of `exec` for an instruction without a meaning; no arm of this model raises it. Safe. -/
  | notModelled (mnemonic : String)
  deriving DecidableEq, Repr

/-- The Square schedule arrays, all zero (R48, R153). -/
def SquareSchedule.zero : SquareSchedule where
  ek := Vector.replicate 32 0
  dk := Vector.replicate 32 0
  me := Vector.replicate 32 0
  md := Vector.replicate 32 0

/-- The Twofish schedule arrays, all zero (R48, R193). -/
def TwofishSchedule.zero : TwofishSchedule where
  rk := Vector.replicate 40 0
  sb := Vector.replicate 4 (Vector.replicate 256 0)

/-- The state right after reset, as R48 gives every value of it. `rst`, `response` and `inputs` are
DESIGN CHOICE (notes/assumptions/3.md, 6.md, 7.md). -/
def State.reset : State where
  ie := false
  done := false
  err := false
  errcode := .none
  key := Vector.replicate 8 0
  din := Vector.replicate 4 0
  dout := Vector.replicate 4 0
  dig := Vector.replicate 8 0
  msg := Vector.replicate 16 0
  sq := .zero
  sqKeyed := false
  tf := .zero
  tfKeyed := false
  tfKlen := 0b00
  seq := .idle
  rst := false
  response := .none
  inputs := []

end Sys2Proof.Machine
end

