-- ==== Sys2Proof/Machine/Flags.lean ====
section
/-! DEFINITION. The status word and the interrupt line: every flag the core shows (spec/10_state.md §4, R45, R275). -/

namespace Sys2Proof.Machine

/-- `busy = (SEQ ≠ IDLE)` (R31, R44). -/
def State.busy (s : State) : Bool :=
  match s.seq with
  | .idle => false
  | .busy _ => true

/-- The 4-bit ERRCODE value of an error code (R260). -/
def ErrCode.bits (e : ErrCode) : BitVec 4 :=
  match e with
  | .none => 0x0
  | .illegalCmd => 0x1
  | .badKlen => 0x2
  | .notKeyed => 0x3
  | .cmdBusy => 0x4

/-- The value a host read of STATUS returns (R38): ERRCODE in 11:8, TF_KLEN in 6:5, TF_KEYED 4, SQ_KEYED 3, ERR 2,
DONE 1, BUSY 0; bits 7 and 31:12 read 0. -/
def State.statusWord (s : State) : Word :=
  (s.errcode.bits ++ 0#1 ++ s.tfKlen ++ BitVec.ofBool s.tfKeyed ++ BitVec.ofBool s.sqKeyed ++ BitVec.ofBool s.err
    ++ BitVec.ofBool s.done ++ BitVec.ofBool s.busy).setWidth 32

/-- The value a host read of CTRL returns: IE in bit 0, bits 31:1 zero (R29, R67). -/
def State.ctrlWord (s : State) : Word := (BitVec.ofBool s.ie).setWidth 32

/-- The IRQ output, `CTRL.IE & (STATUS.DONE | STATUS.ERR)` at all times (R45, R275). -/
def State.irq (s : State) : Bool := s.ie && (s.done || s.err)

end Sys2Proof.Machine
end

