-- ==== Sys2Proof/Machine/Codec.lean ====
section
/-! DEFINITION. The byte/word codec and arithmetic primitives every engine uses (spec/40_codec.md, R110-R122). -/

namespace Sys2Proof.Machine

/-- The vector whose element `i` is `f i`: how a rule's `for i in 0..n-1` fills an array. -/
def tabulate {α : Type} (n : Nat) (f : Nat → α) : Vector α n :=
  ⟨⟨(List.range n).map f⟩, by simp⟩

/-- `byte_be(n, w) = w[31-8n : 24-8n]`, the source's `get_byte` (R6, R114); `n` is 0..3. -/
def byteBe (n : Nat) (w : Word) : Byte := w.extractLsb' (24 - 8 * n) 8

/-- `byte_le(n, w) = w[8n+7 : 8n]` (R6); `n` is 0..3. -/
def byteLe (n : Nat) (w : Word) : Byte := w.extractLsb' (8 * n) 8

/-- `load_be32` (R110): the first byte is most significant. -/
def loadBe32 (b0 b1 b2 b3 : Byte) : Word := b0 ++ b1 ++ b2 ++ b3

/-- `load_le32` (R111): the first byte is least significant. -/
def loadLe32 (b0 b1 b2 b3 : Byte) : Word := b3 ++ b2 ++ b1 ++ b0

/-- `store_be32` (R112). -/
def storeBe32 (w : Word) : List Byte := [byteBe 0 w, byteBe 1 w, byteBe 2 w, byteBe 3 w]

/-- `store_le32` (R112). -/
def storeLe32 (w : Word) : List Byte := [byteLe 0 w, byteLe 1 w, byteLe 2 w, byteLe 3 w]

/-- `bswap32` (R113). -/
def bswap32 (w : Word) : Word := byteLe 0 w ++ byteLe 1 w ++ byteLe 2 w ++ byteLe 3 w

/-- `rotl32(x, n)`, 0 < n < 32 (R116). -/
def rotl32 (x : Word) (n : Nat) : Word := (x <<< n) ||| (x >>> (32 - n))

/-- `rotr32(x, n)`, 0 < n < 32 (R116). -/
def rotr32 (x : Word) (n : Nat) : Word := (x >>> n) ||| (x <<< (32 - n))

/-- `rotr4(x, n)` on a 4-bit value, 0 < n < 4 (R116). -/
def rotr4 (x : BitVec 4) (n : Nat) : BitVec 4 := (x >>> n) ||| (x <<< (4 - n))

/-- The Square field's polynomial, 0x1F5 (R119, R130). -/
def polySquare : BitVec 9 := 0x1F5

/-- The Twofish MDS field's polynomial, 0x169 (R119). -/
def polyMds : BitVec 9 := 0x169

/-- The Twofish RS field's polynomial, 0x14D (R119). -/
def polyRs : BitVec 9 := 0x14D

/-- One doubling of `gmul_P`'s loop: `a <- a << 1` with a 9-bit intermediate, reduced by `P` when bit 8 is set (R118). -/
def gdouble (p : BitVec 9) (a : Byte) : Byte :=
  let wide : BitVec 9 := a.setWidth 9 <<< 1
  (if wide.getLsbD 8 then wide ^^^ p else wide).setWidth 8

/-- The loop of `gmul_P` over the low `n` bits of `b` (R118). -/
def gmulLoop (p : BitVec 9) : Nat → Byte → Byte → Byte → Byte
  | 0, _, _, r => r
  | n + 1, a, b, r => gmulLoop p n (gdouble p a) (b >>> 1) (if b.getLsbD 0 then r ^^^ a else r)

/-- `gmul_P(a, b)`: the product of `a` and `b` in GF(2^8) modulo `P` (R118). -/
def gmul (p : BitVec 9) (a b : Byte) : Byte := gmulLoop p 8 a b 0

/-- `ginv_P(a)`: the multiplicative inverse, 0 for 0 (R121), computed as the 254th power, since a^255 = 1 for a ≠ 0:
254 = 2 + 4 + 8 + 16 + 32 + 64 + 128. -/
def ginv (p : BitVec 9) (a : Byte) : Byte :=
  let a2 := gmul p a a
  let a4 := gmul p a2 a2
  let a8 := gmul p a4 a4
  let a16 := gmul p a8 a8
  let a32 := gmul p a16 a16
  let a64 := gmul p a32 a32
  let a128 := gmul p a64 a64
  gmul p a2 (gmul p a4 (gmul p a8 (gmul p a16 (gmul p a32 (gmul p a64 a128)))))

/-- The sum of bytes in GF(2^8): addition is exclusive-or (R118). -/
def xorSum (bs : List Byte) : Byte := bs.foldr (· ^^^ ·) 0

/-- One output lane of a byte-lane linear map (R122): a matrix row times the input bytes, taken in order. -/
def gdot (p : BitVec 9) (row bytes : List Byte) : Byte := xorSum (List.zipWith (gmul p) row bytes)

/-- Entry `x` of a 256-entry byte table written as sixteen rows: row `x[7:4]`, column `x[3:0]` (R131, R172). -/
def tableEntry (rows : List (List Byte)) (x : Byte) : Byte :=
  (rows.getD (x.extractLsb' 4 4).toNat []).getD (x.extractLsb' 0 4).toNat 0

end Sys2Proof.Machine
end

