-- ==== Sys2Proof/Machine/TwofishEngine.lean ====
section
/-! DEFINITION. The Twofish engine's functions (spec/42_twofish.md §1-§6): the q permutations, the MDS and RS
matrices, the key material, the function h, the key schedule, the round function and the block operations. -/

namespace Sys2Proof.Machine

/-- The rows of `Q0` (R172, the normative values). -/
def q0Rows : List (List Byte) := [
  [0xA9, 0x67, 0xB3, 0xE8, 0x04, 0xFD, 0xA3, 0x76, 0x9A, 0x92, 0x80, 0x78, 0xE4, 0xDD, 0xD1, 0x38],
  [0x0D, 0xC6, 0x35, 0x98, 0x18, 0xF7, 0xEC, 0x6C, 0x43, 0x75, 0x37, 0x26, 0xFA, 0x13, 0x94, 0x48],
  [0xF2, 0xD0, 0x8B, 0x30, 0x84, 0x54, 0xDF, 0x23, 0x19, 0x5B, 0x3D, 0x59, 0xF3, 0xAE, 0xA2, 0x82],
  [0x63, 0x01, 0x83, 0x2E, 0xD9, 0x51, 0x9B, 0x7C, 0xA6, 0xEB, 0xA5, 0xBE, 0x16, 0x0C, 0xE3, 0x61],
  [0xC0, 0x8C, 0x3A, 0xF5, 0x73, 0x2C, 0x25, 0x0B, 0xBB, 0x4E, 0x89, 0x6B, 0x53, 0x6A, 0xB4, 0xF1],
  [0xE1, 0xE6, 0xBD, 0x45, 0xE2, 0xF4, 0xB6, 0x66, 0xCC, 0x95, 0x03, 0x56, 0xD4, 0x1C, 0x1E, 0xD7],
  [0xFB, 0xC3, 0x8E, 0xB5, 0xE9, 0xCF, 0xBF, 0xBA, 0xEA, 0x77, 0x39, 0xAF, 0x33, 0xC9, 0x62, 0x71],
  [0x81, 0x79, 0x09, 0xAD, 0x24, 0xCD, 0xF9, 0xD8, 0xE5, 0xC5, 0xB9, 0x4D, 0x44, 0x08, 0x86, 0xE7],
  [0xA1, 0x1D, 0xAA, 0xED, 0x06, 0x70, 0xB2, 0xD2, 0x41, 0x7B, 0xA0, 0x11, 0x31, 0xC2, 0x27, 0x90],
  [0x20, 0xF6, 0x60, 0xFF, 0x96, 0x5C, 0xB1, 0xAB, 0x9E, 0x9C, 0x52, 0x1B, 0x5F, 0x93, 0x0A, 0xEF],
  [0x91, 0x85, 0x49, 0xEE, 0x2D, 0x4F, 0x8F, 0x3B, 0x47, 0x87, 0x6D, 0x46, 0xD6, 0x3E, 0x69, 0x64],
  [0x2A, 0xCE, 0xCB, 0x2F, 0xFC, 0x97, 0x05, 0x7A, 0xAC, 0x7F, 0xD5, 0x1A, 0x4B, 0x0E, 0xA7, 0x5A],
  [0x28, 0x14, 0x3F, 0x29, 0x88, 0x3C, 0x4C, 0x02, 0xB8, 0xDA, 0xB0, 0x17, 0x55, 0x1F, 0x8A, 0x7D],
  [0x57, 0xC7, 0x8D, 0x74, 0xB7, 0xC4, 0x9F, 0x72, 0x7E, 0x15, 0x22, 0x12, 0x58, 0x07, 0x99, 0x34],
  [0x6E, 0x50, 0xDE, 0x68, 0x65, 0xBC, 0xDB, 0xF8, 0xC8, 0xA8, 0x2B, 0x40, 0xDC, 0xFE, 0x32, 0xA4],
  [0xCA, 0x10, 0x21, 0xF0, 0xD3, 0x5D, 0x0F, 0x00, 0x6F, 0x9D, 0x36, 0x42, 0x4A, 0x5E, 0xC1, 0xE0]]

/-- The rows of `Q1` (R172). -/
def q1Rows : List (List Byte) := [
  [0x75, 0xF3, 0xC6, 0xF4, 0xDB, 0x7B, 0xFB, 0xC8, 0x4A, 0xD3, 0xE6, 0x6B, 0x45, 0x7D, 0xE8, 0x4B],
  [0xD6, 0x32, 0xD8, 0xFD, 0x37, 0x71, 0xF1, 0xE1, 0x30, 0x0F, 0xF8, 0x1B, 0x87, 0xFA, 0x06, 0x3F],
  [0x5E, 0xBA, 0xAE, 0x5B, 0x8A, 0x00, 0xBC, 0x9D, 0x6D, 0xC1, 0xB1, 0x0E, 0x80, 0x5D, 0xD2, 0xD5],
  [0xA0, 0x84, 0x07, 0x14, 0xB5, 0x90, 0x2C, 0xA3, 0xB2, 0x73, 0x4C, 0x54, 0x92, 0x74, 0x36, 0x51],
  [0x38, 0xB0, 0xBD, 0x5A, 0xFC, 0x60, 0x62, 0x96, 0x6C, 0x42, 0xF7, 0x10, 0x7C, 0x28, 0x27, 0x8C],
  [0x13, 0x95, 0x9C, 0xC7, 0x24, 0x46, 0x3B, 0x70, 0xCA, 0xE3, 0x85, 0xCB, 0x11, 0xD0, 0x93, 0xB8],
  [0xA6, 0x83, 0x20, 0xFF, 0x9F, 0x77, 0xC3, 0xCC, 0x03, 0x6F, 0x08, 0xBF, 0x40, 0xE7, 0x2B, 0xE2],
  [0x79, 0x0C, 0xAA, 0x82, 0x41, 0x3A, 0xEA, 0xB9, 0xE4, 0x9A, 0xA4, 0x97, 0x7E, 0xDA, 0x7A, 0x17],
  [0x66, 0x94, 0xA1, 0x1D, 0x3D, 0xF0, 0xDE, 0xB3, 0x0B, 0x72, 0xA7, 0x1C, 0xEF, 0xD1, 0x53, 0x3E],
  [0x8F, 0x33, 0x26, 0x5F, 0xEC, 0x76, 0x2A, 0x49, 0x81, 0x88, 0xEE, 0x21, 0xC4, 0x1A, 0xEB, 0xD9],
  [0xC5, 0x39, 0x99, 0xCD, 0xAD, 0x31, 0x8B, 0x01, 0x18, 0x23, 0xDD, 0x1F, 0x4E, 0x2D, 0xF9, 0x48],
  [0x4F, 0xF2, 0x65, 0x8E, 0x78, 0x5C, 0x58, 0x19, 0x8D, 0xE5, 0x98, 0x57, 0x67, 0x7F, 0x05, 0x64],
  [0xAF, 0x63, 0xB6, 0xFE, 0xF5, 0xB7, 0x3C, 0xA5, 0xCE, 0xE9, 0x68, 0x44, 0xE0, 0x4D, 0x43, 0x69],
  [0x29, 0x2E, 0xAC, 0x15, 0x59, 0xA8, 0x0A, 0x9E, 0x6E, 0x47, 0xDF, 0x34, 0x35, 0x6A, 0xCF, 0xDC],
  [0x22, 0xC9, 0xC0, 0x9B, 0x89, 0xD4, 0xED, 0xAB, 0x12, 0xA2, 0x0D, 0x52, 0xBB, 0x02, 0x2F, 0xA9],
  [0xD7, 0x61, 0x1E, 0xB4, 0x50, 0x04, 0xF6, 0xC2, 0x16, 0x25, 0x86, 0x56, 0x55, 0x09, 0xBE, 0x91]]

/-- `Q0[x]` (R172). -/
def twofishQ0 (x : Byte) : Byte := tableEntry q0Rows x

/-- `Q1[x]` (R172). -/
def twofishQ1 (x : Byte) : Byte := tableEntry q1Rows x

/-- The nibble tables t0..t3 of q0 (R171). -/
def q0Nibbles : List (List (BitVec 4)) := [
  [0x8, 0x1, 0x7, 0xD, 0x6, 0xF, 0x3, 0x2, 0x0, 0xB, 0x5, 0x9, 0xE, 0xC, 0xA, 0x4],
  [0xE, 0xC, 0xB, 0x8, 0x1, 0x2, 0x3, 0x5, 0xF, 0x4, 0xA, 0x6, 0x7, 0x0, 0x9, 0xD],
  [0xB, 0xA, 0x5, 0xE, 0x6, 0xD, 0x9, 0x0, 0xC, 0x8, 0xF, 0x3, 0x2, 0x4, 0x7, 0x1],
  [0xD, 0x7, 0xF, 0x4, 0x1, 0x2, 0x6, 0xE, 0x9, 0xB, 0x3, 0x0, 0x8, 0x5, 0xC, 0xA]]

/-- The nibble tables t0..t3 of q1 (R171). -/
def q1Nibbles : List (List (BitVec 4)) := [
  [0x2, 0x8, 0xB, 0xD, 0xF, 0x7, 0x6, 0xE, 0x3, 0x1, 0x9, 0x4, 0x0, 0xA, 0xC, 0x5],
  [0x1, 0xE, 0x2, 0xB, 0x4, 0xC, 0x3, 0x7, 0x6, 0xD, 0xA, 0x5, 0xF, 0x9, 0x0, 0x8],
  [0x4, 0xC, 0x7, 0x5, 0x1, 0x6, 0x9, 0xA, 0x0, 0xE, 0xD, 0x8, 0x2, 0xB, 0x3, 0xF],
  [0xB, 0x9, 0x5, 0x1, 0xC, 0x3, 0xD, 0xE, 0x6, 0x4, 0x7, 0xF, 0x2, 0x0, 0x8, 0xA]]

/-- Entry `x` of nibble table `i` (R171). -/
def nibbleEntry (t : List (List (BitVec 4))) (i : Nat) (x : BitVec 4) : BitVec 4 := (t.getD i []).getD x.toNat 0

/-- `qperm(t, x)`, the nibble construction of a q permutation (R171). -/
def qperm (t : List (List (BitVec 4))) (x : Byte) : Byte :=
  let a0 : BitVec 4 := x.extractLsb' 4 4
  let b0 : BitVec 4 := x.extractLsb' 0 4
  let a1 := a0 ^^^ b0
  let b1 := a0 ^^^ rotr4 b0 1 ^^^ (a0 <<< 3)
  let a2 := nibbleEntry t 0 a1
  let b2 := nibbleEntry t 1 b1
  let a3 := a2 ^^^ b2
  let b3 := a2 ^^^ rotr4 b2 1 ^^^ (a2 <<< 3)
  let a4 := nibbleEntry t 2 a3
  let b4 := nibbleEntry t 3 b3
  b4 ++ a4

/-- The rows of the MDS matrix (R173). -/
def mdsRows : List (List Byte) := [
  [0x01, 0xEF, 0x5B, 0x5B],
  [0x5B, 0xEF, 0xEF, 0x01],
  [0xEF, 0x5B, 0x01, 0xEF],
  [0xEF, 0x01, 0xEF, 0x5B]]

/-- `MDS[i][j]` (R173). -/
def mdsEntry (i j : Nat) : Byte := (mdsRows.getD i []).getD j 0

/-- `MDSmul(y0, y1, y2, y3)` on the bytes in order (R173). -/
def mdsMul (y : List Byte) : Word :=
  loadLe32 (gdot polyMds (mdsRows.getD 0 []) y) (gdot polyMds (mdsRows.getD 1 []) y)
    (gdot polyMds (mdsRows.getD 2 []) y) (gdot polyMds (mdsRows.getD 3 []) y)

/-- The rows of the RS matrix (R174). -/
def rsRows : List (List Byte) := [
  [0x01, 0xA4, 0x55, 0x87, 0x5A, 0x58, 0xDB, 0x9E],
  [0xA4, 0x56, 0x82, 0xF3, 0x1E, 0xC6, 0x68, 0xE5],
  [0x02, 0xA1, 0xFC, 0xC1, 0x47, 0xAE, 0x3D, 0x19],
  [0xA4, 0x55, 0x87, 0x5A, 0x58, 0xDB, 0x9E, 0x03]]

/-- `RSmul(m0..m7)` (R174). -/
def rsMul (m : List Byte) : Word :=
  loadLe32 (gdot polyRs (rsRows.getD 0 []) m) (gdot polyRs (rsRows.getD 1 []) m)
    (gdot polyRs (rsRows.getD 2 []) m) (gdot polyRs (rsRows.getD 3 []) m)

/-! ### Key material (R170, R175, R185) -/

/-- The KEY words of a TF_KEY snapshot, KEY0 first (R43). -/
def twofishKeyWords (key : TwofishKey) : List Word :=
  match key with
  | .bits128 w => w.toList
  | .bits192 w => w.toList
  | .bits256 w => w.toList

/-- The KLEN of a TF_KEY snapshot (R94). -/
def twofishKlen (key : TwofishKey) : BitVec 2 :=
  match key with
  | .bits128 _ => 0b00
  | .bits192 _ => 0b01
  | .bits256 _ => 0b10

/-- `k = 2 + klen`, the S-box composition depth (R175, R185). -/
def twofishDepth (key : TwofishKey) : Nat := 2 + (twofishKlen key).toNat

/-- The key word `M_i = bswap32(KEYi)` (R170). -/
def twofishM (key : TwofishKey) (i : Nat) : Word := bswap32 ((twofishKeyWords key).getD i 0)

/-- The key bytes `m[0..N-1]` in order (R170, R185). -/
def twofishKeyBytes (key : TwofishKey) : List Byte := (twofishKeyWords key).flatMap storeBe32

/-- `Me`, the even-indexed key words (R175). -/
def twofishMe (key : TwofishKey) : List Word := (List.range (twofishDepth key)).map (fun i => twofishM key (2 * i))

/-- `Mo`, the odd-indexed key words (R175). -/
def twofishMo (key : TwofishKey) : List Word := (List.range (twofishDepth key)).map (fun i => twofishM key (2 * i + 1))

/-- `S_i = RSmul(m[8i], ..., m[8i+7])` (R175). -/
def twofishS (key : TwofishKey) (i : Nat) : Word := rsMul (((twofishKeyBytes key).drop (8 * i)).take 8)

/-- `SL = (S_{k-1}, ..., S_0)`: the S words in reverse order (R175). -/
def twofishSl (key : TwofishKey) : List Word := ((List.range (twofishDepth key)).map (twofishS key)).reverse

/-! ### The function h (R177) -/

/-- `l_{m,j} = byte_le(j, L_m)` (R177). -/
def keyByte (l : List Word) (m j : Nat) : Byte := byteLe j (l.getD m 0)

/-- One byte lane of `hbytes` (R177): lane `j` of input byte `y` under the key words `l`, `k = l.length`. `q4` and `q3`
are the permutations of the `k = 4` and `k ≥ 3` stages, `qIn`, `qMid` and `qOut` those of the last three. -/
def hLane (q4 q3 qIn qMid qOut : Byte → Byte) (j : Nat) (l : List Word) (y : Byte) : Byte :=
  let y4 := if l.length = 4 then q4 y ^^^ keyByte l 3 j else y
  let y3 := if 3 ≤ l.length then q3 y4 ^^^ keyByte l 2 j else y4
  qOut (qMid (qIn y3 ^^^ keyByte l 1 j) ^^^ keyByte l 0 j)

/-- Lane `j` of `hbytes`, with the permutations R177 gives that lane. -/
def hByte (j : Nat) (l : List Word) (y : Byte) : Byte :=
  match j with
  | 0 => hLane twofishQ1 twofishQ1 twofishQ0 twofishQ0 twofishQ1 0 l y
  | 1 => hLane twofishQ0 twofishQ1 twofishQ1 twofishQ0 twofishQ0 1 l y
  | 2 => hLane twofishQ0 twofishQ0 twofishQ0 twofishQ1 twofishQ1 2 l y
  | _ => hLane twofishQ1 twofishQ0 twofishQ1 twofishQ1 twofishQ0 3 l y

/-- `hbytes(X, L)`: four independent byte lanes (R177). -/
def hBytes (x : Word) (l : List Word) : List Byte :=
  [hByte 0 l (byteLe 0 x), hByte 1 l (byteLe 1 x), hByte 2 l (byteLe 2 x), hByte 3 l (byteLe 3 x)]

/-- `h(X, L) = MDSmul(hbytes(X, L))` (R177). -/
def twofishH (x : Word) (l : List Word) : Word := mdsMul (hBytes x l)

/-! ### The key schedule (R178, R179, R185) -/

/-- `TF_SB[j][x]`: lane `j` of `h(·, SL)` with column `j` of the MDS matrix folded in (R178). -/
def sboxWord (sl : List Word) (j : Nat) (x : Byte) : Word :=
  loadLe32 (gmul polyMds (mdsEntry 0 j) (hByte j sl x)) (gmul polyMds (mdsEntry 1 j) (hByte j sl x))
    (gmul polyMds (mdsEntry 2 j) (hByte j sl x)) (gmul polyMds (mdsEntry 3 j) (hByte j sl x))

/-- The word with every byte equal to `n`: `n·ρ` with `ρ = 0x01010101` (R179). -/
def repeatByte (n : Nat) : Word := loadLe32 (BitVec.ofNat 8 n) (BitVec.ofNat 8 n) (BitVec.ofNat 8 n) (BitVec.ofNat 8 n)

/-- `A_i = h(2i·ρ, Me)` (R179). -/
def roundKeyA (key : TwofishKey) (i : Nat) : Word := twofishH (repeatByte (2 * i)) (twofishMe key)

/-- `B_i = rotl32(h((2i+1)·ρ, Mo), 8)` (R179). -/
def roundKeyB (key : TwofishKey) (i : Nat) : Word := rotl32 (twofishH (repeatByte (2 * i + 1)) (twofishMo key)) 8

/-- The round-key word `K_n`, n in 0..39 (R179). -/
def twofishK (key : TwofishKey) (n : Nat) : Word :=
  let a := roundKeyA key (n / 2)
  let b := roundKeyB key (n / 2)
  if n % 2 = 0 then a + b else rotl32 (a + 2 * b) 9

/-- `TwofishSchedule(klen, W)` (R185). -/
def twofishSchedule (key : TwofishKey) : TwofishSchedule where
  rk := tabulate 40 (twofishK key)
  sb := tabulate 4 (fun j => tabulate 256 (fun x => sboxWord (twofishSl key) j (BitVec.ofNat 8 x)))

/-! ### The block operations (R180-R184) -/

/-- `TF_SB[j][x]` as stored (R40). -/
def sboxEntry (s : TwofishSchedule) (j : Fin 4) (x : Byte) : Word := s.sb[j][x.toNat]'x.isLt

/-- `g(X)`: four S-box lookups (R180). -/
def twofishG (s : TwofishSchedule) (x : Word) : Word :=
  sboxEntry s 0 (byteLe 0 x) ^^^ sboxEntry s 1 (byteLe 1 x) ^^^ sboxEntry s 2 (byteLe 2 x) ^^^ sboxEntry s 3 (byteLe 3 x)

/-- `K_n` as stored in TF_RK (R40). -/
def rkWord (s : TwofishSchedule) (n : Nat) : Word := s.rk.getD n 0

/-- The first word `F0` of `F(R0, R1, r)`: `X + Y + K_{2r+8}` (R181). -/
def twofishF0 (s : TwofishSchedule) (r0 r1 : Word) (r : Nat) : Word :=
  twofishG s r0 + twofishG s (rotl32 r1 8) + rkWord s (2 * r + 8)

/-- The second word `F1` of `F(R0, R1, r)`: `X + 2·Y + K_{2r+9}` (R181). -/
def twofishF1 (s : TwofishSchedule) (r0 r1 : Word) (r : Nat) : Word :=
  twofishG s r0 + 2 * twofishG s (rotl32 r1 8) + rkWord s (2 * r + 9)

/-- Encryption round `r` (R182). -/
def twofishRound (s : TwofishSchedule) (x : Vector Word 4) (r : Nat) : Vector Word 4 :=
  #v[rotr32 (x[2] ^^^ twofishF0 s x[0] x[1] r) 1, rotl32 x[3] 1 ^^^ twofishF1 s x[0] x[1] r, x[0], x[1]]

/-- Decryption round `r` (R184). -/
def twofishUnround (s : TwofishSchedule) (x : Vector Word 4) (r : Nat) : Vector Word 4 :=
  #v[x[2], x[3], rotl32 x[0] 1 ^^^ twofishF0 s x[2] x[3] r, rotr32 (x[1] ^^^ twofishF1 s x[2] x[3] r) 1]

/-- `TwofishEncrypt` under the stored schedule (R183). -/
def twofishEncrypt (s : TwofishSchedule) (d : Vector Word 4) : Vector Word 4 :=
  let start : Vector Word 4 := #v[bswap32 d[0] ^^^ rkWord s 0, bswap32 d[1] ^^^ rkWord s 1,
    bswap32 d[2] ^^^ rkWord s 2, bswap32 d[3] ^^^ rkWord s 3]
  let x := (List.range 16).foldl (twofishRound s) start
  #v[bswap32 (x[2] ^^^ rkWord s 4), bswap32 (x[3] ^^^ rkWord s 5),
    bswap32 (x[0] ^^^ rkWord s 6), bswap32 (x[1] ^^^ rkWord s 7)]

/-- `TwofishDecrypt` under the stored schedule (R184). -/
def twofishDecrypt (s : TwofishSchedule) (d : Vector Word 4) : Vector Word 4 :=
  let start : Vector Word 4 := #v[bswap32 d[2] ^^^ rkWord s 6, bswap32 d[3] ^^^ rkWord s 7,
    bswap32 d[0] ^^^ rkWord s 4, bswap32 d[1] ^^^ rkWord s 5]
  let x := (List.range 16).reverse.foldl (twofishUnround s) start
  #v[bswap32 (x[0] ^^^ rkWord s 0), bswap32 (x[1] ^^^ rkWord s 1),
    bswap32 (x[2] ^^^ rkWord s 2), bswap32 (x[3] ^^^ rkWord s 3)]

end Sys2Proof.Machine
end

