-- ==== Sys2Proof/Machine/Ops.lean ====
section
/-! DEFINITION. The named operations on the state: the register window, issue and commit bookkeeping, the rejection of
a command (the core's analogue of taking an exception) and the host's clearing of it (its analogue of the return). -/

namespace Sys2Proof.Machine

/-! ### The command in flight -/

/-- The operation and KLEN of the command in flight (R42). -/
def Flight.instr (f : Flight) : Instr :=
  match f with
  | .nop => .nop
  | .sqKey _ => .sqKey
  | .sqEnc _ => .sqEnc
  | .sqDec _ => .sqDec
  | .sqClear => .sqClear
  | .tfKey key => .tfKey (twofishKlen key)
  | .tfEnc _ => .tfEnc
  | .tfDec _ => .tfDec
  | .tfClear => .tfClear
  | .sha1Comp _ _ => .sha1Comp
  | .sha256Comp _ _ => .sha256Comp
  | .clearAll => .clearAll

/-- An accepted command's issue: SEQ holds it with its snapshot, so BUSY = 1, and DONE is cleared (R231). -/
def State.accept (s : State) (f : Flight) : State := { s with seq := .busy f, done := false }

/-- The end of every commit: SEQ is IDLE, so BUSY = 0, and DONE is set (R234). -/
def State.finish (s : State) : State := { s with seq := .idle, done := true }

/-! ### Rejection and its clearing: the core's only exception mechanism (R266, R270, R271) -/

/-- `raise CmdError(code)` (R266): ERR is set, ERRCODE takes the code only if ERR was 0, and nothing else changes. -/
def State.cmdError (s : State) (code : ErrCode) : State :=
  { s with err := true, errcode := if s.err then s.errcode else code }

/-- `StatusW1C(v)` (R69): bit 1 clears DONE; bit 2 clears ERR and ERRCODE together. -/
def State.statusW1C (s : State) (v : Word) : State :=
  { s with
    done := s.done && !v.getLsbD 1
    err := s.err && !v.getLsbD 2
    errcode := if v.getLsbD 2 then .none else s.errcode }

/-! ### What commits write -/

/-- Write DOUT0-DOUT3 (R25). -/
def State.setDout (s : State) (d : Vector Word 4) : State := { s with dout := d }

/-- Write DIG0-DIG7 (R219). -/
def State.setDigest8 (s : State) (d : Vector Word 8) : State := { s with dig := d }

/-- Write DIG0-DIG4, leaving DIG5-DIG7 unchanged (R26, R214). -/
def State.setDigest5 (s : State) (d : Vector Word 5) : State :=
  { s with dig := #v[d[0], d[1], d[2], d[3], d[4], s.dig[5], s.dig[6], s.dig[7]] }

/-- Load a Square schedule: the arrays and `sq_keyed` (R150). -/
def State.loadSquare (s : State) (a : SquareSchedule) : State := { s with sq := a, sqKeyed := true }

/-- Zero the Square schedule and `sq_keyed` (R153). -/
def State.clearSquare (s : State) : State := { s with sq := .zero, sqKeyed := false }

/-- Load a Twofish schedule: the arrays, `tf_keyed` and `tf_klen` (R190). -/
def State.loadTwofish (s : State) (a : TwofishSchedule) (klen : BitVec 2) : State :=
  { s with tf := a, tfKeyed := true, tfKlen := klen }

/-- Zero the Twofish schedule, `tf_keyed` and `tf_klen` (R193). -/
def State.clearTwofish (s : State) : State := { s with tf := .zero, tfKeyed := false, tfKlen := 0b00 }

/-- Zero KEY, DIN, DOUT, DIG and MSG (R233). -/
def State.clearData (s : State) : State :=
  { s with
    key := Vector.replicate 8 0
    din := Vector.replicate 4 0
    dout := Vector.replicate 4 0
    dig := Vector.replicate 8 0
    msg := Vector.replicate 16 0 }

/-! ### Reset (R290) -/

/-- RST is asserted (R290): every register and array takes its value of R48 and SEQ is IDLE, so a command in flight is
abandoned. The events still to come are the environment's and stay (notes/assumptions/3.md). -/
def State.assertReset (s : State) : State := { State.reset with rst := true, inputs := s.inputs }

/-- RST is released: the next access sees the reset state (R290). -/
def State.releaseReset (s : State) : State := { s with rst := false }

/-! ### The register window (R22, R66-R71) -/

/-- The core's answer to a host access. -/
def State.respond (s : State) (r : Response) : State := { s with response := r }

/-- The registers of the window (R22); `reserved` is every other slot. -/
inductive Reg where
  /-- CTRL, 0x000 -/
  | ctrl
  /-- CMD, 0x004 -/
  | cmd
  /-- STATUS, 0x008 -/
  | status
  /-- ID, 0x00C -/
  | id
  /-- KEYi, 0x010 + 4i -/
  | key (i : Fin 8)
  /-- DINi, 0x030 + 4i -/
  | din (i : Fin 4)
  /-- DOUTi, 0x040 + 4i -/
  | dout (i : Fin 4)
  /-- DIGi, 0x050 + 4i -/
  | dig (i : Fin 8)
  /-- MSGi, 0x080 + 4i -/
  | msg (i : Fin 16)
  /-- 0x070-0x07C and 0x0C0-0x0FC: RAZ/WI (R66) -/
  | reserved
  deriving DecidableEq, Repr

/-- The register at an admitted offset, by the ranges of R67 and R68. -/
def regAt (off : BitVec 8) : Reg :=
  let a := off.toNat
  if a = 0x000 then .ctrl
  else if a = 0x004 then .cmd
  else if a = 0x008 then .status
  else if a = 0x00C then .id
  else if h : 0x010 ≤ a ∧ a ≤ 0x02C then .key ⟨(a - 0x010) / 4, by omega⟩
  else if h : 0x030 ≤ a ∧ a ≤ 0x03C then .din ⟨(a - 0x030) / 4, by omega⟩
  else if h : 0x040 ≤ a ∧ a ≤ 0x04C then .dout ⟨(a - 0x040) / 4, by omega⟩
  else if h : 0x050 ≤ a ∧ a ≤ 0x06C then .dig ⟨(a - 0x050) / 4, by omega⟩
  else if h : 0x080 ≤ a ∧ a ≤ 0x0BC then .msg ⟨(a - 0x080) / 4, by omega⟩
  else .reserved

/-- The offset of a register of R22; for `reserved`, its first slot. -/
def Reg.offset (r : Reg) : BitVec 8 :=
  match r with
  | .ctrl => 0x00
  | .cmd => 0x04
  | .status => 0x08
  | .id => 0x0C
  | .key i => BitVec.ofNat 8 (0x10 + 4 * i.val)
  | .din i => BitVec.ofNat 8 (0x30 + 4 * i.val)
  | .dout i => BitVec.ofNat 8 (0x40 + 4 * i.val)
  | .dig i => BitVec.ofNat 8 (0x50 + 4 * i.val)
  | .msg i => BitVec.ofNat 8 (0x80 + 4 * i.val)
  | .reserved => 0x70

/-- What a host read of a register returns (R67): CMD, KEY and reserved slots read 0, ID reads `P_CORE_ID`. -/
def State.readReg (s : State) (r : Reg) : Word :=
  match r with
  | .ctrl => s.ctrlWord
  | .cmd => 0
  | .status => s.statusWord
  | .id => Config.pCoreId
  | .key _ => 0
  | .din i => s.din[i]
  | .dout i => s.dout[i]
  | .dig i => s.dig[i]
  | .msg i => s.msg[i]
  | .reserved => 0

/-- What a host write does to a register other than CMD (R68): it stores, clears status bits (STATUS), or is ignored
(ID, DOUT, reserved: R66, R71). A write to CMD stores nothing (R30); issuing is `issue`. -/
def State.writeReg (s : State) (r : Reg) (v : Word) : State :=
  match r with
  | .ctrl => { s with ie := v.getLsbD 0 }
  | .cmd => s
  | .status => s.statusW1C v
  | .id => s
  | .key i => { s with key := s.key.set i v }
  | .din i => { s with din := s.din.set i v }
  | .dout _ => s
  | .dig i => { s with dig := s.dig.set i v }
  | .msg i => { s with msg := s.msg.set i v }
  | .reserved => s

/-- `HostRead(off)` (R67). -/
def hostRead (s : State) (off : BitVec 8) : Word := s.readReg (regAt off)

/-- The window admits only 4-byte accesses at offsets that are multiples of 4 (R62; notes/assumptions/13.md). -/
abbrev Admitted (off : BitVec 8) (size : Nat) : Prop := size = 4 ∧ off.toNat % 4 = 0

/-- The core's address decoder (R22, R62): the window offset of a bus address, none outside the 256-byte window. -/
def busOffset (addr : Nat) : Option (BitVec 8) :=
  if Config.pBase ≤ addr ∧ addr < Config.pBase + 256 then some (BitVec.ofNat 8 (addr - Config.pBase)) else none

/-- `MemRead(addr, n)` as the core sees it (R8): no event for an address it does not decode (U9). -/
def memRead (addr size : Nat) : List Event :=
  match busOffset addr with
  | some off => [.hostRead off size]
  | none => []

/-- `MemWrite(addr, n, v)` as the core sees it (R8, U9). -/
def memWrite (addr size : Nat) (v : Word) : List Event :=
  match busOffset addr with
  | some off => [.hostWrite off size v]
  | none => []

end Sys2Proof.Machine
end

