-- ==== Sys2Proof/Machine/Control.lean ====
section
/-! DEFINITION. The commands of no engine: NOP and CLEAR_ALL (spec/44_control.md R232, R233).

The meaning of every command runs the part of its rule that SEQ selects (R9, notes/assumptions/5.md): from IDLE the
issue, from BUSY with this command in flight the commit. With another command in flight the command is rejected with
CMD_BUSY (R230). A CMD write while BUSY never reaches a meaning: `issue` rejects it before decoding (R231, R263). -/

namespace Sys2Proof.Machine

/-- NOP (R232). -/
def execNop (s : State) : Host.Outcome State Fault Refusal :=
  match s.seq with
  | .idle => .next (s.accept .nop)
  | .busy .nop => .next s.finish
  | .busy _ => .next (s.cmdError .cmdBusy)

/-- CLEAR_ALL (R233). -/
def execClearAll (s : State) : Host.Outcome State Fault Refusal :=
  match s.seq with
  | .idle => .next (s.accept .clearAll)
  | .busy .clearAll => .next s.clearSquare.clearTwofish.clearData.finish
  | .busy _ => .next (s.cmdError .cmdBusy)

end Sys2Proof.Machine
end

