-- ==== Sys2Proof/Machine/Operands.lean ====
section
/-! DEFINITION. The operands a command reads at issue: the snapshots of spec/10_state.md R43. -/

namespace Sys2Proof.Machine

/-- SQ_KEY's operands, KEY0-KEY3 (R43, R150). -/
def snapSquareKey (s : State) : Vector Word 4 := #v[s.key[0], s.key[1], s.key[2], s.key[3]]

/-- TF_KEY's operands: the KEY registers its KLEN selects, none for KLEN 0b11 (R43, R94, R190). -/
def snapTwofishKey (klen : BitVec 2) (s : State) : Option TwofishKey :=
  if klen = 0b00#2 then some (.bits128 #v[s.key[0], s.key[1], s.key[2], s.key[3]])
  else if klen = 0b01#2 then some (.bits192 #v[s.key[0], s.key[1], s.key[2], s.key[3], s.key[4], s.key[5]])
  else if klen = 0b10#2 then some (.bits256 s.key)
  else none

/-- SHA1_COMP's digest operand, DIG0-DIG4 (R43, R214). -/
def snapDigest5 (s : State) : Vector Word 5 := #v[s.dig[0], s.dig[1], s.dig[2], s.dig[3], s.dig[4]]

end Sys2Proof.Machine
end

