-- ==== Sys2Proof/Machine/ShaEngine.lean ====
section
/-! DEFINITION. The SHA engine's functions (spec/43_sha.md): SHA-1 and SHA-256 compression of one 64-byte block. -/

namespace Sys2Proof.Machine

/-! ### SHA-1 (R213) -/

/-- The working variables `(a, b, c, d, e)` of SHA-1 (R213). -/
structure Sha1Vars where
  /-- a -/
  a : Word
  /-- b -/
  b : Word
  /-- c -/
  c : Word
  /-- d -/
  d : Word
  /-- e -/
  e : Word
  deriving DecidableEq, Repr

/-- `W[t]` from the sixteen words before it, newest first: `recent[0] = W[t-1]` (R213). -/
def sha1NextWord (recent : List Word) : Word :=
  rotl32 (recent.getD 2 0 ^^^ recent.getD 7 0 ^^^ recent.getD 13 0 ^^^ recent.getD 15 0) 1

/-- Extend a message schedule, held newest first, by `n` words of the rule `next` (R213, R217). -/
def extendSchedule (next : List Word → Word) : Nat → List Word → List Word
  | 0, recent => recent
  | n + 1, recent => extendSchedule next n (next recent :: recent)

/-- `W[0..79]` (R213). -/
def sha1Words (block : Vector Word 16) : List Word := (extendSchedule sha1NextWord 64 block.toList.reverse).reverse

/-- The round function `f` of round `t` (R213). -/
def sha1F (t : Nat) (b c d : Word) : Word :=
  if t ≤ 19 then (b &&& c) ||| (~~~b &&& d)
  else if t ≤ 39 then b ^^^ c ^^^ d
  else if t ≤ 59 then (b &&& c) ||| (b &&& d) ||| (c &&& d)
  else b ^^^ c ^^^ d

/-- The round constant `k` of round `t` (R213). -/
def sha1K (t : Nat) : Word :=
  if t ≤ 19 then 0x5A827999 else if t ≤ 39 then 0x6ED9EBA1 else if t ≤ 59 then 0x8F1BBCDC else 0xCA62C1D6

/-- One SHA-1 round (R213). -/
def sha1Round (t : Nat) (w : Word) (v : Sha1Vars) : Sha1Vars :=
  match v with
  | ⟨a, b, c, d, e⟩ => ⟨rotl32 a 5 + sha1F t b c d + e + sha1K t + w, a, rotl32 b 30, c, d⟩

/-- The SHA-1 rounds from round `t` on, one for each word of the schedule (R213). -/
def sha1Rounds : Nat → List Word → Sha1Vars → Sha1Vars
  | _, [], v => v
  | t, w :: ws, v => sha1Rounds (t + 1) ws (sha1Round t w v)

/-- `SHA1Compress(H[0..4], W[0..15])` (R213). -/
def sha1Compress (h : Vector Word 5) (block : Vector Word 16) : Vector Word 5 :=
  let v := sha1Rounds 0 (sha1Words block) ⟨h[0], h[1], h[2], h[3], h[4]⟩
  #v[h[0] + v.a, h[1] + v.b, h[2] + v.c, h[3] + v.d, h[4] + v.e]

/-! ### SHA-256 (R215-R218) -/

/-- `Ch(x, y, z)` (R215). -/
def sha256Ch (x y z : Word) : Word := (x &&& y) ^^^ (~~~x &&& z)

/-- `Maj(x, y, z)` (R215). -/
def sha256Maj (x y z : Word) : Word := (x &&& y) ^^^ (x &&& z) ^^^ (y &&& z)

/-- `Σ0(x)` (R215). -/
def sha256BigSigma0 (x : Word) : Word := rotr32 x 2 ^^^ rotr32 x 13 ^^^ rotr32 x 22

/-- `Σ1(x)` (R215). -/
def sha256BigSigma1 (x : Word) : Word := rotr32 x 6 ^^^ rotr32 x 11 ^^^ rotr32 x 25

/-- `σ0(x)` (R215). -/
def sha256Sigma0 (x : Word) : Word := rotr32 x 7 ^^^ rotr32 x 18 ^^^ (x >>> 3)

/-- `σ1(x)` (R215). -/
def sha256Sigma1 (x : Word) : Word := rotr32 x 17 ^^^ rotr32 x 19 ^^^ (x >>> 10)

/-- The rows of the SHA-256 round constants, `K[8i..8i+7]` in row `i` (R216). -/
def sha256KRows : List (List Word) := [
  [0x428A2F98, 0x71374491, 0xB5C0FBCF, 0xE9B5DBA5, 0x3956C25B, 0x59F111F1, 0x923F82A4, 0xAB1C5ED5],
  [0xD807AA98, 0x12835B01, 0x243185BE, 0x550C7DC3, 0x72BE5D74, 0x80DEB1FE, 0x9BDC06A7, 0xC19BF174],
  [0xE49B69C1, 0xEFBE4786, 0x0FC19DC6, 0x240CA1CC, 0x2DE92C6F, 0x4A7484AA, 0x5CB0A9DC, 0x76F988DA],
  [0x983E5152, 0xA831C66D, 0xB00327C8, 0xBF597FC7, 0xC6E00BF3, 0xD5A79147, 0x06CA6351, 0x14292967],
  [0x27B70A85, 0x2E1B2138, 0x4D2C6DFC, 0x53380D13, 0x650A7354, 0x766A0ABB, 0x81C2C92E, 0x92722C85],
  [0xA2BFE8A1, 0xA81A664B, 0xC24B8B70, 0xC76C51A3, 0xD192E819, 0xD6990624, 0xF40E3585, 0x106AA070],
  [0x19A4C116, 0x1E376C08, 0x2748774C, 0x34B0BCB5, 0x391C0CB3, 0x4ED8AA4A, 0x5B9CCA4F, 0x682E6FF3],
  [0x748F82EE, 0x78A5636F, 0x84C87814, 0x8CC70208, 0x90BEFFFA, 0xA4506CEB, 0xBEF9A3F7, 0xC67178F2]]

/-- `K[t]` (R216). -/
def sha256K (t : Nat) : Word := (sha256KRows.getD (t / 8) []).getD (t % 8) 0

/-- `W[t]` from the sixteen words before it, newest first (R217). -/
def sha256NextWord (recent : List Word) : Word :=
  sha256Sigma1 (recent.getD 1 0) + recent.getD 6 0 + sha256Sigma0 (recent.getD 14 0) + recent.getD 15 0

/-- `W[0..63]` (R217). -/
def sha256Words (block : Vector Word 16) : List Word := (extendSchedule sha256NextWord 48 block.toList.reverse).reverse

/-- The working variables `(a, ..., h)` of SHA-256 (R218). -/
structure Sha256Vars where
  /-- a -/
  a : Word
  /-- b -/
  b : Word
  /-- c -/
  c : Word
  /-- d -/
  d : Word
  /-- e -/
  e : Word
  /-- f -/
  f : Word
  /-- g -/
  g : Word
  /-- h -/
  h : Word
  deriving DecidableEq, Repr

/-- One SHA-256 round (R218). -/
def sha256Round (t : Nat) (w : Word) (v : Sha256Vars) : Sha256Vars :=
  match v with
  | ⟨a, b, c, d, e, f, g, h⟩ =>
    let t1 := h + sha256BigSigma1 e + sha256Ch e f g + sha256K t + w
    let t2 := sha256BigSigma0 a + sha256Maj a b c
    ⟨t1 + t2, a, b, c, d + t1, e, f, g⟩

/-- The SHA-256 rounds from round `t` on, one for each word of the schedule (R218). -/
def sha256Rounds : Nat → List Word → Sha256Vars → Sha256Vars
  | _, [], v => v
  | t, w :: ws, v => sha256Rounds (t + 1) ws (sha256Round t w v)

/-- `SHA256Compress(H[0..7], W[0..15])` (R218). -/
def sha256Compress (h : Vector Word 8) (block : Vector Word 16) : Vector Word 8 :=
  let v := sha256Rounds 0 (sha256Words block) ⟨h[0], h[1], h[2], h[3], h[4], h[5], h[6], h[7]⟩
  #v[h[0] + v.a, h[1] + v.b, h[2] + v.c, h[3] + v.d, h[4] + v.e, h[5] + v.f, h[6] + v.g, h[7] + v.h]

end Sys2Proof.Machine
end

