-- ==== Sys2Proof/Machine/Sha.lean ====
section
/-! DEFINITION. The hash commands SHA1_COMP and SHA256_COMP (spec/43_sha.md R214, R219). Each meaning runs the issue
from IDLE and the commit when the command is in flight, as in Machine/Control.lean. -/

namespace Sys2Proof.Machine

/-- SHA1_COMP (R214): DIG5-DIG7 keep the values they have at the commit (R76). -/
def execSha1Comp (s : State) : Host.Outcome State Fault Refusal :=
  match s.seq with
  | .idle => .next (s.accept (.sha1Comp (snapDigest5 s) s.msg))
  | .busy (.sha1Comp dig msg) => .next (s.setDigest5 (sha1Compress dig msg)).finish
  | .busy _ => .next (s.cmdError .cmdBusy)

/-- SHA256_COMP (R219). -/
def execSha256Comp (s : State) : Host.Outcome State Fault Refusal :=
  match s.seq with
  | .idle => .next (s.accept (.sha256Comp s.dig s.msg))
  | .busy (.sha256Comp dig msg) => .next (s.setDigest8 (sha256Compress dig msg)).finish
  | .busy _ => .next (s.cmdError .cmdBusy)

end Sys2Proof.Machine
end

