-- ==== Sys2Proof/Machine/SquareEngine.lean ====
section
/-! DEFINITION. The Square engine's functions (spec/41_square.md §1-§6): S-boxes, the transform θ, the T-tables, the
reference cipher, the key schedule and the table-form datapath the core implements (notes/assumptions/16.md). -/

namespace Sys2Proof.Machine

/-- The rows of the encryption S-box SE (R131; the table is normative). -/
def seRows : List (List Byte) := [
  [0xB1, 0xCE, 0xC3, 0x95, 0x5A, 0xAD, 0xE7, 0x02, 0x4D, 0x44, 0xFB, 0x91, 0x0C, 0x87, 0xA1, 0x50],
  [0xCB, 0x67, 0x54, 0xDD, 0x46, 0x8F, 0xE1, 0x4E, 0xF0, 0xFD, 0xFC, 0xEB, 0xF9, 0xC4, 0x1A, 0x6E],
  [0x5E, 0xF5, 0xCC, 0x8D, 0x1C, 0x56, 0x43, 0xFE, 0x07, 0x61, 0xF8, 0x75, 0x59, 0xFF, 0x03, 0x22],
  [0x8A, 0xD1, 0x13, 0xEE, 0x88, 0x00, 0x0E, 0x34, 0x15, 0x80, 0x94, 0xE3, 0xED, 0xB5, 0x53, 0x23],
  [0x4B, 0x47, 0x17, 0xA7, 0x90, 0x35, 0xAB, 0xD8, 0xB8, 0xDF, 0x4F, 0x57, 0x9A, 0x92, 0xDB, 0x1B],
  [0x3C, 0xC8, 0x99, 0x04, 0x8E, 0xE0, 0xD7, 0x7D, 0x85, 0xBB, 0x40, 0x2C, 0x3A, 0x45, 0xF1, 0x42],
  [0x65, 0x20, 0x41, 0x18, 0x72, 0x25, 0x93, 0x70, 0x36, 0x05, 0xF2, 0x0B, 0xA3, 0x79, 0xEC, 0x08],
  [0x27, 0x31, 0x32, 0xB6, 0x7C, 0xB0, 0x0A, 0x73, 0x5B, 0x7B, 0xB7, 0x81, 0xD2, 0x0D, 0x6A, 0x26],
  [0x9E, 0x58, 0x9C, 0x83, 0x74, 0xB3, 0xAC, 0x30, 0x7A, 0x69, 0x77, 0x0F, 0xAE, 0x21, 0xDE, 0xD0],
  [0x2E, 0x97, 0x10, 0xA4, 0x98, 0xA8, 0xD4, 0x68, 0x2D, 0x62, 0x29, 0x6D, 0x16, 0x49, 0x76, 0xC7],
  [0xE8, 0xC1, 0x96, 0x37, 0xE5, 0xCA, 0xF4, 0xE9, 0x63, 0x12, 0xC2, 0xA6, 0x14, 0xBC, 0xD3, 0x28],
  [0xAF, 0x2F, 0xE6, 0x24, 0x52, 0xC6, 0xA0, 0x09, 0xBD, 0x8C, 0xCF, 0x5D, 0x11, 0x5F, 0x01, 0xC5],
  [0x9F, 0x3D, 0xA2, 0x9B, 0xC9, 0x3B, 0xBE, 0x51, 0x19, 0x1F, 0x3F, 0x5C, 0xB2, 0xEF, 0x4A, 0xCD],
  [0xBF, 0xBA, 0x6F, 0x64, 0xD9, 0xF3, 0x3E, 0xB4, 0xAA, 0xDC, 0xD5, 0x06, 0xC0, 0x7E, 0xF6, 0x66],
  [0x6C, 0x84, 0x71, 0x38, 0xB9, 0x1D, 0x7F, 0x9D, 0x48, 0x8B, 0x2A, 0xDA, 0xA5, 0x33, 0x82, 0x39],
  [0xD6, 0x78, 0x86, 0xFA, 0xE4, 0x2B, 0xA9, 0x1E, 0x89, 0x60, 0x6B, 0xEA, 0x55, 0x4C, 0xF7, 0xE2]]

/-- The rows of the decryption S-box SD (R132). -/
def sdRows : List (List Byte) := [
  [0x35, 0xBE, 0x07, 0x2E, 0x53, 0x69, 0xDB, 0x28, 0x6F, 0xB7, 0x76, 0x6B, 0x0C, 0x7D, 0x36, 0x8B],
  [0x92, 0xBC, 0xA9, 0x32, 0xAC, 0x38, 0x9C, 0x42, 0x63, 0xC8, 0x1E, 0x4F, 0x24, 0xE5, 0xF7, 0xC9],
  [0x61, 0x8D, 0x2F, 0x3F, 0xB3, 0x65, 0x7F, 0x70, 0xAF, 0x9A, 0xEA, 0xF5, 0x5B, 0x98, 0x90, 0xB1],
  [0x87, 0x71, 0x72, 0xED, 0x37, 0x45, 0x68, 0xA3, 0xE3, 0xEF, 0x5C, 0xC5, 0x50, 0xC1, 0xD6, 0xCA],
  [0x5A, 0x62, 0x5F, 0x26, 0x09, 0x5D, 0x14, 0x41, 0xE8, 0x9D, 0xCE, 0x40, 0xFD, 0x08, 0x17, 0x4A],
  [0x0F, 0xC7, 0xB4, 0x3E, 0x12, 0xFC, 0x25, 0x4B, 0x81, 0x2C, 0x04, 0x78, 0xCB, 0xBB, 0x20, 0xBD],
  [0xF9, 0x29, 0x99, 0xA8, 0xD3, 0x60, 0xDF, 0x11, 0x97, 0x89, 0x7E, 0xFA, 0xE0, 0x9B, 0x1F, 0xD2],
  [0x67, 0xE2, 0x64, 0x77, 0x84, 0x2B, 0x9E, 0x8A, 0xF1, 0x6D, 0x88, 0x79, 0x74, 0x57, 0xDD, 0xE6],
  [0x39, 0x7B, 0xEE, 0x83, 0xE1, 0x58, 0xF2, 0x0D, 0x34, 0xF8, 0x30, 0xE9, 0xB9, 0x23, 0x54, 0x15],
  [0x44, 0x0B, 0x4D, 0x66, 0x3A, 0x03, 0xA2, 0x91, 0x94, 0x52, 0x4C, 0xC3, 0x82, 0xE7, 0x80, 0xC0],
  [0xB6, 0x0E, 0xC2, 0x6C, 0x93, 0xEC, 0xAB, 0x43, 0x95, 0xF6, 0xD8, 0x46, 0x86, 0x05, 0x8C, 0xB0],
  [0x75, 0x00, 0xCC, 0x85, 0xD7, 0x3D, 0x73, 0x7A, 0x48, 0xE4, 0xD1, 0x59, 0xAD, 0xB8, 0xC6, 0xD0],
  [0xDC, 0xA1, 0xAA, 0x02, 0x1D, 0xBF, 0xB5, 0x9F, 0x51, 0xC4, 0xA5, 0x10, 0x22, 0xCF, 0x01, 0xBA],
  [0x8F, 0x31, 0x7C, 0xAE, 0x96, 0xDA, 0xF0, 0x56, 0x47, 0xD4, 0xEB, 0x4E, 0xD9, 0x13, 0x8E, 0x49],
  [0x55, 0x16, 0xFF, 0x3B, 0xF4, 0xA4, 0xB2, 0x06, 0xA0, 0xA7, 0xFB, 0x1B, 0x6E, 0x3C, 0x33, 0xCD],
  [0x18, 0x5E, 0x6A, 0xD5, 0xA6, 0x21, 0xDE, 0xFE, 0x2A, 0x1C, 0xF3, 0x0A, 0x1A, 0x19, 0x27, 0x2D]]

/-- `SE[x]` (R131). -/
def squareSe (x : Byte) : Byte := tableEntry seRows x

/-- `SD[x]` (R132). -/
def squareSd (x : Byte) : Byte := tableEntry sdRows x

/-- The values of the GF(2)-linear map `L` on the unit bytes 0x01, 0x02, ..., 0x80 (R131). -/
def squareLUnits : List Byte := [0x7F, 0xDA, 0xBC, 0x78, 0xF0, 0x60, 0xC0, 0x80]

/-- `L(v)`: the exclusive-or of `L(unit)` over the set bits of `v` (R131). -/
def squareL (v : Byte) : Byte :=
  xorSum ((List.range 8).map (fun i => if v.getLsbD i then squareLUnits.getD i 0 else 0))

/-- The coefficient vector `c` of θ (R133). -/
def thetaCoef : List Byte := [0x02, 0x01, 0x01, 0x03]

/-- The coefficient vector `d` of θ⁻¹ (R133). -/
def thetaInvCoef : List Byte := [0x0E, 0x09, 0x0D, 0x0B]

/-- Entry `[j][k]` of the circulant matrix of a coefficient vector: `c[(j - k) mod 4]` (R134). -/
def circulant (coef : List Byte) (j k : Nat) : Byte := coef.getD ((j + 4 - k) % 4) 0

/-- Row `j` of the circulant matrix (R134). -/
def circulantRow (coef : List Byte) (j : Nat) : List Byte := (List.range 4).map (circulant coef j)

/-- The circulant map on one row word, by its coefficient vector (R134, R135). -/
def thetaWith (coef : List Byte) (w : Word) : Word :=
  loadBe32 (gdot polySquare (circulantRow coef 0) (storeBe32 w))
    (gdot polySquare (circulantRow coef 1) (storeBe32 w))
    (gdot polySquare (circulantRow coef 2) (storeBe32 w))
    (gdot polySquare (circulantRow coef 3) (storeBe32 w))

/-- `θw` (R134). -/
def thetaW (w : Word) : Word := thetaWith thetaCoef w

/-- `θw⁻¹` (R135). -/
def thetaInvW (w : Word) : Word := thetaWith thetaInvCoef w

/-- Column `k` of the circulant matrix times the byte `s`, as a row word (R136). -/
def tableColumn (coef : List Byte) (k : Nat) (s : Byte) : Word :=
  loadBe32 (gmul polySquare (circulant coef 0 k) s) (gmul polySquare (circulant coef 1 k) s)
    (gmul polySquare (circulant coef 2 k) s) (gmul polySquare (circulant coef 3 k) s)

/-- `TE_k[x]` (R136). -/
def squareTe (k : Nat) (x : Byte) : Word := tableColumn thetaCoef k (squareSe x)

/-- `TD_k[x]` (R136). -/
def squareTd (k : Nat) (x : Byte) : Word := tableColumn thetaInvCoef k (squareSd x)

/-! ### The reference cipher (R137-R139)

A state is four row words; `byte_be(j, a[i])` is `a[i][j]` (R137). -/

/-- `γ` or `γ⁻¹`: an S-box on every byte of the state (R138). -/
def squareGamma (sbox : Byte → Byte) (a : Vector Word 4) : Vector Word 4 :=
  a.map (fun w => loadBe32 (sbox (byteBe 0 w)) (sbox (byteBe 1 w)) (sbox (byteBe 2 w)) (sbox (byteBe 3 w)))

/-- `π`, the transposition: `b[i][j] = a[j][i]` (R138). -/
def squarePi (a : Vector Word 4) : Vector Word 4 :=
  tabulate 4 (fun i => loadBe32 (byteBe i a[0]) (byteBe i a[1]) (byteBe i a[2]) (byteBe i a[3]))

/-- `θ`: `θw` on each row (R134, R138). -/
def squareTheta (a : Vector Word 4) : Vector Word 4 := a.map thetaW

/-- `θ⁻¹`: `θw⁻¹` on each row (R135, R138). -/
def squareThetaInv (a : Vector Word 4) : Vector Word 4 := a.map thetaInvW

/-- `σ[k]`, the key addition (R138). -/
def squareSigma (k a : Vector Word 4) : Vector Word 4 := Vector.zipWith (· ^^^ ·) a k

/-- `ρ[k] = σ[k] ∘ π ∘ γ ∘ θ` (R139). -/
def squareRho (k a : Vector Word 4) : Vector Word 4 :=
  squareSigma k (squarePi (squareGamma squareSe (squareTheta a)))

/-- `ρ[k]⁻¹ = θ⁻¹ ∘ γ⁻¹ ∘ π ∘ σ[k]` (R139). -/
def squareRhoInv (k a : Vector Word 4) : Vector Word 4 :=
  squareThetaInv (squareGamma squareSd (squarePi (squareSigma k a)))

/-! ### The key schedule (R140, R141, R146) -/

/-- Expansion step `t`, 1..8: round key `k^t` from round key `k^(t-1)` (R140). -/
def squareNextKey (t : Nat) (k : Vector Word 4) : Vector Word 4 :=
  let w0 := k[0] ^^^ rotl32 k[3] 8 ^^^ (0x01000000#32 <<< (t - 1))
  let w1 := k[1] ^^^ w0
  let w2 := k[2] ^^^ w1
  let w3 := k[3] ^^^ w2
  #v[w0, w1, w2, w3]

/-- Round key `k^t`, t in 0..8; row `r` is `KR[4t + r]` (R140, R141). -/
def squareRoundKey (key : Vector Word 4) : Nat → Vector Word 4
  | 0 => key
  | t + 1 => squareNextKey (t + 1) (squareRoundKey key t)

/-- `Square_enc`: `ρ[k^8] ∘ ... ∘ ρ[k^1] ∘ σ[k^0] ∘ θ⁻¹` (R139). -/
def squareEncReference (key p : Vector Word 4) : Vector Word 4 :=
  [1, 2, 3, 4, 5, 6, 7, 8].foldl (fun a t => squareRho (squareRoundKey key t) a)
    (squareSigma (squareRoundKey key 0) (squareThetaInv p))

/-- `Square_dec`: `θ ∘ σ[k^0] ∘ ρ[k^1]⁻¹ ∘ ... ∘ ρ[k^8]⁻¹` (R139). -/
def squareDecReference (key c : Vector Word 4) : Vector Word 4 :=
  squareTheta (squareSigma (squareRoundKey key 0)
    ([8, 7, 6, 5, 4, 3, 2, 1].foldl (fun a t => squareRhoInv (squareRoundKey key t) a) c))

/-- `KR[n]`, n in 0..35 (R140). -/
def squareKr (key : Vector Word 4) (n : Nat) : Word := (squareRoundKey key (n / 4)).getD (n % 4) 0

/-- The 16 bytes of four row words, in order (R137). -/
def rowBytes (k : Vector Word 4) (n : Nat) : Byte := byteBe (n % 4) (k.getD (n / 4) 0)

/-- `SquareSchedule(K0..K3)` (R146): `EK` is θ(k^1)..θ(k^7) and raw k^8, `DK` is raw k^7..k^1 and θ(k^0), `ME` is
the bytes of θ(k^0) then k^8, and `MD` the same halves swapped. -/
def squareSchedule (key : Vector Word 4) : SquareSchedule :=
  let whitening := squareTheta (squareRoundKey key 0)
  let last := squareRoundKey key 8
  { ek := tabulate 32 (fun n => if n < 28 then thetaW (squareKr key (n + 4)) else squareKr key (n + 4))
    dk := tabulate 32 (fun n => if n < 28 then squareKr key (4 * (7 - n / 4) + n % 4) else thetaW (squareKr key (n - 28)))
    me := tabulate 32 (fun n => if n < 16 then rowBytes whitening n else rowBytes last (n - 16))
    md := tabulate 32 (fun n => if n < 16 then rowBytes last n else rowBytes whitening (n - 16)) }

/-! ### The table-form datapath (R143-R148) -/

/-- The table round `TR(T, X, RK)` (R143), with the round keys `rk[4r .. 4r+3]` of a 32-word array. -/
def tableRound (t : Nat → Byte → Word) (rk : Vector Word 32) (x : Vector Word 4) (r : Nat) : Vector Word 4 :=
  tabulate 4 (fun i => t 0 (byteBe i x[0]) ^^^ t 1 (byteBe i x[1]) ^^^ t 2 (byteBe i x[2]) ^^^ t 3 (byteBe i x[3])
    ^^^ rk.getD (4 * r + i) 0)

/-- The final round `FR(S, X, MB)` (R144), with the 16-byte mask `mask[16..31]`. -/
def finalRound (sbox : Byte → Byte) (mask : Vector Byte 32) (x : Vector Word 4) : Vector Word 4 :=
  tabulate 4 (fun i => loadBe32 (sbox (byteBe i x[0]) ^^^ mask.getD (16 + 4 * i) 0)
    (sbox (byteBe i x[1]) ^^^ mask.getD (16 + 4 * i + 1) 0)
    (sbox (byteBe i x[2]) ^^^ mask.getD (16 + 4 * i + 2) 0)
    (sbox (byteBe i x[3]) ^^^ mask.getD (16 + 4 * i + 3) 0))

/-- The boundary input mask (R145), the first 16 bytes of `mask`. -/
def inputMask (mask : Vector Byte 32) (d : Vector Word 4) : Vector Word 4 :=
  tabulate 4 (fun i => d.getD i 0 ^^^ loadBe32 (mask.getD (4 * i) 0) (mask.getD (4 * i + 1) 0)
    (mask.getD (4 * i + 2) 0) (mask.getD (4 * i + 3) 0))

/-- One datapath serves both directions (R148): input mask, seven table rounds, final round. -/
def squareDatapath (t : Nat → Byte → Word) (sbox : Byte → Byte) (rk : Vector Word 32) (mask : Vector Byte 32)
    (d : Vector Word 4) : Vector Word 4 :=
  finalRound sbox mask ((List.range 7).foldl (tableRound t rk) (inputMask mask d))

/-- `SquareEncrypt` under the stored schedule (R147). -/
def squareEncrypt (s : SquareSchedule) (d : Vector Word 4) : Vector Word 4 :=
  squareDatapath squareTe squareSe s.ek s.me d

/-- `SquareDecrypt` under the stored schedule (R148). -/
def squareDecrypt (s : SquareSchedule) (d : Vector Word 4) : Vector Word 4 :=
  squareDatapath squareTd squareSd s.dk s.md d

end Sys2Proof.Machine
end

