-- ==== Sys2Proof/Machine/Square.lean ====
section
/-! DEFINITION. The Square commands SQ_KEY, SQ_ENC, SQ_DEC and SQ_CLEAR (spec/41_square.md §7, R150-R153). Each
meaning runs the issue from IDLE and the commit when the command is in flight, as in Machine/Control.lean. -/

namespace Sys2Proof.Machine

/-- SQ_KEY (R150). -/
def execSqKey (s : State) : Host.Outcome State Fault Refusal :=
  match s.seq with
  | .idle => .next (s.accept (.sqKey (snapSquareKey s)))
  | .busy (.sqKey key) => .next (s.loadSquare (squareSchedule key)).finish
  | .busy _ => .next (s.cmdError .cmdBusy)

/-- SQ_ENC (R151); NOT_KEYED when the engine holds no schedule (R264). -/
def execSqEnc (s : State) : Host.Outcome State Fault Refusal :=
  match s.seq with
  | .idle => if s.sqKeyed then .next (s.accept (.sqEnc s.din)) else .next (s.cmdError .notKeyed)
  | .busy (.sqEnc d) => .next (s.setDout (squareEncrypt s.sq d)).finish
  | .busy _ => .next (s.cmdError .cmdBusy)

/-- SQ_DEC (R152). -/
def execSqDec (s : State) : Host.Outcome State Fault Refusal :=
  match s.seq with
  | .idle => if s.sqKeyed then .next (s.accept (.sqDec s.din)) else .next (s.cmdError .notKeyed)
  | .busy (.sqDec d) => .next (s.setDout (squareDecrypt s.sq d)).finish
  | .busy _ => .next (s.cmdError .cmdBusy)

/-- SQ_CLEAR (R153). -/
def execSqClear (s : State) : Host.Outcome State Fault Refusal :=
  match s.seq with
  | .idle => .next (s.accept .sqClear)
  | .busy .sqClear => .next s.clearSquare.finish
  | .busy _ => .next (s.cmdError .cmdBusy)

end Sys2Proof.Machine
end

