-- ==== Sys2Proof/Machine/Twofish.lean ====
section
/-! DEFINITION. The Twofish commands TF_KEY, TF_ENC, TF_DEC and TF_CLEAR (spec/42_twofish.md §7, R190-R193). Each
meaning runs the issue from IDLE and the commit when the command is in flight, as in Machine/Control.lean. -/

namespace Sys2Proof.Machine

/-- TF_KEY (R190): KLEN 0b11 is rejected with BAD_KLEN (R262). -/
def execTfKey (klen : BitVec 2) (s : State) : Host.Outcome State Fault Refusal :=
  match s.seq with
  | .idle =>
    match snapTwofishKey klen s with
    | some key => .next (s.accept (.tfKey key))
    | none => .next (s.cmdError .badKlen)
  | .busy (.tfKey key) =>
    if twofishKlen key = klen then .next (s.loadTwofish (twofishSchedule key) klen).finish
    else .next (s.cmdError .cmdBusy)
  | .busy _ => .next (s.cmdError .cmdBusy)

/-- TF_ENC (R191); NOT_KEYED when the engine holds no schedule (R264). -/
def execTfEnc (s : State) : Host.Outcome State Fault Refusal :=
  match s.seq with
  | .idle => if s.tfKeyed then .next (s.accept (.tfEnc s.din)) else .next (s.cmdError .notKeyed)
  | .busy (.tfEnc d) => .next (s.setDout (twofishEncrypt s.tf d)).finish
  | .busy _ => .next (s.cmdError .cmdBusy)

/-- TF_DEC (R192). -/
def execTfDec (s : State) : Host.Outcome State Fault Refusal :=
  match s.seq with
  | .idle => if s.tfKeyed then .next (s.accept (.tfDec s.din)) else .next (s.cmdError .notKeyed)
  | .busy (.tfDec d) => .next (s.setDout (twofishDecrypt s.tf d)).finish
  | .busy _ => .next (s.cmdError .cmdBusy)

/-- TF_CLEAR (R193). -/
def execTfClear (s : State) : Host.Outcome State Fault Refusal :=
  match s.seq with
  | .idle => .next (s.accept .tfClear)
  | .busy .tfClear => .next s.clearTwofish.finish
  | .busy _ => .next (s.cmdError .cmdBusy)

end Sys2Proof.Machine
end

