-- ==== Sys2Proof/Machine/Dispatch.lean ====
section
/-! DEFINITION. Which meaning each command has: one arm per constructor of Instr (spec/30_encoding.md R93, R234). -/

namespace Sys2Proof.Machine

def exec (i : Instr) (s : State) : Host.Outcome State Fault Refusal :=
  match i with
  | .nop => Sys2Proof.Machine.execNop s
  | .sqKey => Sys2Proof.Machine.execSqKey s
  | .sqEnc => Sys2Proof.Machine.execSqEnc s
  | .sqDec => Sys2Proof.Machine.execSqDec s
  | .sqClear => Sys2Proof.Machine.execSqClear s
  | .tfKey klen => Sys2Proof.Machine.execTfKey klen s
  | .tfEnc => Sys2Proof.Machine.execTfEnc s
  | .tfDec => Sys2Proof.Machine.execTfDec s
  | .tfClear => Sys2Proof.Machine.execTfClear s
  | .sha1Comp => Sys2Proof.Machine.execSha1Comp s
  | .sha256Comp => Sys2Proof.Machine.execSha256Comp s
  | .clearAll => Sys2Proof.Machine.execClearAll s

end Sys2Proof.Machine
end

