-- ==== Sys2Proof/Machine/Events.lean ====
section
/-! DEFINITION. The events of the core's step relation (spec/44_control.md R231, R236, R237; spec/20_memory.md R62). -/

namespace Sys2Proof.Machine

/-- `Issue(c)` (R231): CMD_BUSY before anything else, then the decoder's rejections, then the command's own rule. -/
def issue (c : Word) (s : State) : Host.Outcome State Fault Refusal :=
  match s.seq with
  | .busy _ => .next (s.cmdError .cmdBusy)
  | .idle =>
    match decode c with
    | .illegal => .next (s.cmdError .illegalCmd)
    | .badKlen => .next (s.cmdError .badKlen)
    | .op i => exec i s

/-- `HostWrite(off, v)` (R68): a write to CMD issues a command, any other is `writeReg`. -/
def hostWrite (off : BitVec 8) (v : Word) (s : State) : Host.Outcome State Fault Refusal :=
  if regAt off = .cmd then issue v s else .next (s.writeReg (regAt off) v)

/-- The commit event (R234, R236): enabled only when a command is in flight, it runs that command's commit. -/
def commitEvent (s : State) : Host.Outcome State Fault Refusal :=
  match s.seq with
  | .idle => .next s
  | .busy f => exec f.instr s

/-- One event (R237). While RST is held no access is answered (R290); a malformed access gets a bus error and changes
no state of the core (R62). -/
def perform (e : Event) (s : State) : Host.Outcome State Fault Refusal :=
  match e with
  | .hostRead off size =>
    if s.rst then .next (s.respond .unanswered)
    else if Admitted off size then .next (s.respond (.data (hostRead s off)))
    else .next (s.respond (.busError off))
  | .hostWrite off size v =>
    if s.rst then .next (s.respond .unanswered)
    else if Admitted off size then hostWrite off v (s.respond .written)
    else .next (s.respond (.busError off))
  | .commit => commitEvent s
  | .rst level => .next (if level then s.assertReset else s.releaseReset)

/-- The next event of the order: the oldest of `inputs`; when no event is left, the commit, the one event that is
still enabled, so that a pending commit is never delayed forever (R236; DESIGN CHOICE in notes/assumptions/4.md). -/
def nextEvent (s : State) : Host.Outcome State Fault Refusal :=
  match s.inputs with
  | [] => commitEvent s
  | e :: rest => perform e { s with inputs := rest }

/-- The write of a command word to CMD that `State.withFetchWord` places, for the bits `w` of an `nbits`-bit
instruction (R91). -/
def commandWrite (nbits w : Nat) : Event := .hostWrite Reg.cmd.offset 4 (BitVec.ofNat 32 (w % 2 ^ nbits))

end Sys2Proof.Machine
end

