-- ==== Sys2Proof/Machine/Step.lean ====
section
/-! DEFINITION. One step of the core: one event of its total order (spec/44_control.md R237), and the host's way of
placing a command as the next event. -/

namespace Sys2Proof.Machine

/-- One step: the next event of the order. -/
def step (s : State) : Host.Outcome State Fault Refusal := Sys2Proof.Machine.nextEvent s

/-- `s` with a host write of the command word to CMD as its next event. For the very next step to run the command SEQ
must be IDLE and RST released, as they are after reset (notes/assumptions/8.md). -/
def State.withFetchWord (s : State) (nbits w : Nat) : State :=
  { s with inputs := Sys2Proof.Machine.commandWrite nbits w :: s.inputs, seq := .idle, rst := false }

end Sys2Proof.Machine
end

