-- ==== Sys2Proof/Machine/HostProgram.lean ====
section
/-! DEFINITION. Host programs (spec/30_encoding.md R99, R100; spec/43_sha.md R220; spec/70_reset_and_hazards.md R297, R298)
and how one runs against the core. The host's control flow is its own: a WAIT is a loop that reads STATUS until the word
it reads ends it, so how often it polls, for each command by itself, is whatever the order of events gives
(notes/assumptions/15.md). -/

namespace Sys2Proof.Machine

/-! ### Bus transactions (the encoding column of R99) -/

/-- `WR <REG>, v` (R99). -/
def hostWr (r : Reg) (v : Word) : Event := .hostWrite r.offset 4 v

/-- `RD <REG>` (R99). -/
def hostRd (r : Reg) : Event := .hostRead r.offset 4

/-- `CMD <MNEMONIC>` and `CMD TF_KEY.<len>`: write the command word (R93, R99). -/
def hostCmd (i : Instr) : Event := hostWr .cmd (encode i)

/-- `CMD.RAW c` (R99). -/
def hostCmdRaw (c : Word) : Event := hostWr .cmd c

/-! ### Programs -/

/-- What is left of a host program that ends with an `α`. A name of R99, `RD <REG> -> <name>`, is the argument of `next`. -/
inductive HostProgram (α : Type) where
  /-- The program has ended. -/
  | done (a : α)
  /-- Write `v` at window offset `off`, then go on. -/
  | write (off : BitVec 8) (v : Word) (next : HostProgram α)
  /-- Read the register at `off`, then go on with the word read. -/
  | read (off : BitVec 8) (next : Word → HostProgram α)
  /-- `loop: RD STATUS -> s; if again s goto loop`, then go on with the last `s` (R100). -/
  | poll (again : Word → Bool) (next : Word → HostProgram α)
  /-- Wait until IRQ is 1, then go on (R298). -/
  | waitIrq (next : HostProgram α)

/-- The line `WR <REG>, v` (R99). -/
def lineWr {α : Type} (r : Reg) (v : Word) (next : HostProgram α) : HostProgram α := .write r.offset v next

/-- The line `RD <REG> -> name` (R99). -/
def lineRd {α : Type} (r : Reg) (next : Word → HostProgram α) : HostProgram α := .read r.offset next

/-- The lines `CMD <MNEMONIC>` and `CMD TF_KEY.<len>` (R93, R99). -/
def lineCmd {α : Type} (i : Instr) (next : HostProgram α) : HostProgram α := lineWr .cmd (encode i) next

/-- The line `CMD.RAW c` (R99). -/
def lineCmdRaw {α : Type} (c : Word) (next : HostProgram α) : HostProgram α := lineWr .cmd c next

/-- Write the words to consecutive registers from `base` on (R60, R100). -/
def hostLoad {α : Type} (base : Reg) (ws : List Word) (next : HostProgram α) : HostProgram α :=
  ws.zipIdx.foldr (fun p rest => .write (base.offset + BitVec.ofNat 8 (4 * p.2)) p.1 rest) next

/-- `LOADKEY k0, ...` (R100). -/
def loadKey {α : Type} (ws : List Word) (next : HostProgram α) : HostProgram α := hostLoad (.key 0) ws next

/-- `LOADBLK d0, ..., d3` (R100). -/
def loadBlk {α : Type} (d : Vector Word 4) (next : HostProgram α) : HostProgram α := hostLoad (.din 0) d.toList next

/-- `LOADMSG m0, ..., m15` (R100). -/
def loadMsg {α : Type} (m : Vector Word 16) (next : HostProgram α) : HostProgram α := hostLoad (.msg 0) m.toList next

/-- `LOADDIG h0, ...` (R100). -/
def loadDig {α : Type} (ws : List Word) (next : HostProgram α) : HostProgram α := hostLoad (.dig 0) ws next

/-- Read `n` consecutive registers from offset `off` on, then go on with the words read (R60). -/
def hostReadRegs {α : Type} (off : BitVec 8) : Nat → (List Word → HostProgram α) → HostProgram α
  | 0, next => next []
  | n + 1, next => .read off (fun w => hostReadRegs (off + 4) n (fun ws => next (w :: ws)))

/-- Read DOUT0-DOUT3, the result of a cipher command (R297). -/
def readBlk {α : Type} (next : List Word → HostProgram α) : HostProgram α := hostReadRegs (Reg.dout 0).offset 4 next

/-- Read DIG0 to DIG`n-1`, the result of a hash command (R220, R297). -/
def readDig {α : Type} (n : Nat) (next : List Word → HostProgram α) : HostProgram α :=
  hostReadRegs (Reg.dig 0).offset n next

/-- `WAIT` (R100): read STATUS until DONE or ERR is 1 in the word read. An ERR that is still set ends it at the first read,
a command in flight or not. -/
def hostWait {α : Type} (next : Word → HostProgram α) : HostProgram α := .poll (fun s => s &&& 0x6 == 0) next

/-- `EXEC <MNEMONIC>` (R100): clear DONE and ERR, issue, WAIT; it goes on with the STATUS word that ended WAIT. -/
def hostExec {α : Type} (i : Instr) (next : Word → HostProgram α) : HostProgram α :=
  lineWr .status 0x6 (lineCmd i (hostWait next))

/-- The two outcomes of an issue, told apart by the STATUS word read (R297): ERR set is a rejection with its ERRCODE,
otherwise the command completed. -/
def hostOutcome {α : Type} (rejected : BitVec 4 → HostProgram α) (completed : HostProgram α) (s : Word) : HostProgram α :=
  if s &&& 0x4 ≠ 0 then rejected (s.extractLsb' 8 4) else completed

/-- `SafeIssue` (R297): the writes of the operands, EXEC, and then what the host does on a rejection (given its ERRCODE) or
on completion (such as `readBlk` or `readDig`). -/
def safeIssue {α : Type} (operands : HostProgram α → HostProgram α) (i : Instr) (rejected : BitVec 4 → HostProgram α)
    (completed : HostProgram α) : HostProgram α :=
  operands (hostExec i (hostOutcome rejected completed))

/-- The handler of the interrupt-driven variant (R298): read STATUS, act on the word, then write the DONE and ERR bits read
back. -/
def interruptHandler {α : Type} (act : Word → HostProgram α → HostProgram α) (next : HostProgram α) : HostProgram α :=
  lineRd .status (fun s => act s (lineWr .status (s &&& 0x6) next))

/-- The interrupt-driven variant (R298), CTRL.IE having been set once before: the steps of R297 up to the CMD write, the wait
for IRQ, the handler. -/
def interruptIssue {α : Type} (operands : HostProgram α → HostProgram α) (i : Instr)
    (act : Word → HostProgram α → HostProgram α) (next : HostProgram α) : HostProgram α :=
  operands (lineWr .status 0x6 (lineCmd i (.waitIrq (interruptHandler act next))))

/-- The two hash functions of the SHA engine (R1), the choice `SHA1_COMP | SHA256_COMP` of R220. -/
inductive HashKind where
  /-- SHA-1: five digest words. -/
  | sha1
  /-- SHA-256: eight digest words. -/
  | sha256
  deriving DecidableEq, Repr

/-- The command that compresses one block of a hash (R214, R219). -/
def HashKind.command (a : HashKind) : Instr :=
  match a with
  | .sha1 => .sha1Comp
  | .sha256 => .sha256Comp

/-- How many DIG registers hold the digest of a hash: DIG0-DIG4 or DIG0-DIG7 (R26, R220). -/
def HashKind.digestWords (a : HashKind) : Nat :=
  match a with
  | .sha1 => 5
  | .sha256 => 8

/-- The blocks' part of `compress_n` (R220): each block is loaded and compressed, the digest staying in DIG between them. -/
def compressBlocks {α : Type} (a : HashKind) : List (Vector Word 16) → HostProgram α → HostProgram α
  | [], next => next
  | b :: bs, next => loadMsg b (hostExec a.command (fun _ => compressBlocks a bs next))

/-- The host loop `compress_n` (R220): the digest is loaded once, every block is compressed, and the digest is read. Each
block's WAIT polls as often as it needs, by itself. -/
def compressN {α : Type} (a : HashKind) (h : Vector Word a.digestWords) (blocks : List (Vector Word 16))
    (next : List Word → HostProgram α) : HostProgram α :=
  loadDig h.toList (compressBlocks a blocks (readDig a.digestWords next))

/-! ### Running a program -/

/-- Whose turn it is in the total order (R74): the host of the program, or anything else that changes the core. -/
inductive HostTurn where
  /-- The host performs its next access. `bus` is what the bus returns should the core not answer with data (U10). -/
  | host (bus : Word)
  /-- A commit, a change of RST, or an access of another master. -/
  | other (e : Event)
  deriving DecidableEq, Repr

/-- A host in the middle of its program, and the core. -/
structure HostRun (α : Type) where
  /-- The state of the core. -/
  core : State
  /-- What is left of the program. -/
  program : HostProgram α

/-- The core after one step with `e` as its next event. -/
def takeEvent (e : Event) (s : State) : State :=
  match step { s with inputs := [e] } with
  | .next t => t
  | .fault _ => s
  | .refused _ => s

/-- The word a host's read gets: the core's data, or what the bus returns where the core gave none (R290, U10, U24). -/
def readWord (bus : Word) (s : State) : Word :=
  match s.response with
  | .data w => w
  | .none => bus
  | .written => bus
  | .busError _ => bus
  | .unanswered => bus

/-- One turn. A host that waits for IRQ makes no access, and a host whose program has ended does nothing. -/
def hostTurn {α : Type} (h : HostRun α) (u : HostTurn) : HostRun α :=
  match u with
  | .other e => { h with core := takeEvent e h.core }
  | .host bus =>
    match h.program with
    | .done _ => h
    | .write off v next => { core := takeEvent (.hostWrite off 4 v) h.core, program := next }
    | .read off next =>
      let s := takeEvent (.hostRead off 4) h.core
      { core := s, program := next (readWord bus s) }
    | .poll again next =>
      let s := takeEvent (hostRd .status) h.core
      { core := s, program := if again (readWord bus s) then .poll again next else next (readWord bus s) }
    | .waitIrq next => if h.core.irq then { h with program := next } else h

/-- A program's run under an order of turns. -/
def hostRun {α : Type} (h : HostRun α) (turns : List HostTurn) : HostRun α := turns.foldl hostTurn h

end Sys2Proof.Machine
end

