-- ==== Sys2Proof/Machine/Timing.lean ====
section
/-! DEFINITION. The timed reading of the core (spec/44_control.md R235, R236; spec/10_state.md R42): a model that counts
time adds the remaining cycles of the command in flight, and the commit occurs exactly `LAT_<op>` clock cycles after
the issue. The untimed step is the model (R4); this layer only says which of its event orders an implementation with
given latencies produces (notes/assumptions/11.md). -/

namespace Sys2Proof.Machine

/-- The latency parameter of each operation (R235). -/
def latencyOf (i : Instr) : Latency :=
  match i with
  | .nop => .nop
  | .sqKey => .sqKey
  | .sqEnc => .sqCrypt
  | .sqDec => .sqCrypt
  | .sqClear => .sqClear
  | .tfKey _ => .tfKey
  | .tfEnc => .tfCrypt
  | .tfDec => .tfCrypt
  | .tfClear => .tfClear
  | .sha1Comp => .sha1
  | .sha256Comp => .sha256
  | .clearAll => .clearAll

/-- What happens in time: an edge of the core clock, or a host access or change of RST between two edges. -/
inductive TimedInput where
  /-- One core clock cycle passes. -/
  | clock
  /-- A host access or a change of RST. A `commit` here is no input: the clock places the commits. -/
  | event (e : Event)
  deriving DecidableEq, Repr

/-- The core with the remaining cycles of the command in flight, 0 when there is none (R42). -/
structure TimedState where
  /-- The state of the core. -/
  core : State
  /-- The remaining cycles. -/
  left : Nat
  deriving DecidableEq, Repr

/-- The cycles from issue to commit of what SEQ holds (R235). -/
def seqLatency (q : Seq) : Nat :=
  match q with
  | .idle => 0
  | .busy f => Config.latency (latencyOf f.instr)

/-- One clock cycle (R236): the command whose last cycle this is commits. -/
def timedClock (t : TimedState) : TimedState :=
  match t.left with
  | 0 => t
  | 1 =>
    match commitEvent t.core with
    | .next s => { core := s, left := 0 }
    | .fault _ => t
    | .refused _ => t
  | n + 2 => { core := t.core, left := n + 1 }

/-- The remaining cycles after an event took the sequencer from `before` to `after`: an issue starts the count, a
reset ends it, and no other event changes it (R236: no host access can prevent, delay or speed up the commit). -/
def leftAfter (before after : Seq) (left : Nat) : Nat :=
  match before, after with
  | _, .idle => 0
  | .idle, .busy f => seqLatency (.busy f)
  | .busy _, .busy _ => left

/-- One event between two clock edges. -/
def timedEvent (e : Event) (t : TimedState) : TimedState :=
  match perform e t.core with
  | .next s => { core := s, left := leftAfter t.core.seq s.seq t.left }
  | .fault _ => t
  | .refused _ => t

/-- One timed input. -/
def timedStep (t : TimedState) (i : TimedInput) : TimedState :=
  match i with
  | .clock => timedClock t
  | .event .commit => t
  | .event (.hostRead off size) => timedEvent (.hostRead off size) t
  | .event (.hostWrite off size v) => timedEvent (.hostWrite off size v) t
  | .event (.rst level) => timedEvent (.rst level) t

/-- A timed run. -/
def timedRun (t : TimedState) (inputs : List TimedInput) : TimedState := inputs.foldl timedStep t

end Sys2Proof.Machine
end

