-- ==== Sys2Proof/Safety.lean ====
section
/-! DEFINITION. The terms claims are stated in: the invariant of the core, what a host can see, and host-only
stretches of the event order. -/

namespace Sys2Proof.Machine

/-- An event that a host makes: a read or a write of the window (R20). -/
def Event.isHost (e : Event) : Bool :=
  match e with
  | .hostRead _ _ => true
  | .hostWrite _ _ _ => true
  | .commit => false
  | .rst _ => false

/-- An event that does not touch RST. -/
def Event.isNotReset (e : Event) : Bool :=
  match e with
  | .hostRead _ _ => true
  | .hostWrite _ _ _ => true
  | .commit => true
  | .rst _ => false

/-- ERRCODE is NONE exactly while ERR is clear (R37, R260, R266). -/
def ErrorsAgree (s : State) : Prop := s.err = false ↔ s.errcode = .none

/-- When `SQ_KEYED` is 1 the arrays hold the schedule of some key; the arrays of an unkeyed engine are zero (R34,
R238). -/
def SquareLifecycle (s : State) : Prop :=
  (s.sqKeyed = true → ∃ key, s.sq = squareSchedule key) ∧ (s.sqKeyed = false → s.sq = .zero)

/-- When `TF_KEYED` is 1 the arrays hold the schedule of some key, of the length TF_KLEN reports; an unkeyed engine's
arrays are zero and its TF_KLEN is 0b00 (R35, R36, R238). -/
def TwofishLifecycle (s : State) : Prop :=
  (s.tfKeyed = true → ∃ key, s.tf = twofishSchedule key ∧ s.tfKlen = twofishKlen key) ∧
  (s.tfKeyed = false → s.tf = .zero ∧ s.tfKlen = 0b00)

/-- A command in flight was accepted: DONE is 0 since its issue (R32), and the engine of a cipher command holds a
schedule (R264, R43). -/
def FlightAccepted (s : State) : Prop :=
  match s.seq with
  | .idle => True
  | .busy f => s.done = false ∧
      match f with
      | .sqEnc _ => s.sqKeyed = true
      | .sqDec _ => s.sqKeyed = true
      | .tfEnc _ => s.tfKeyed = true
      | .tfDec _ => s.tfKeyed = true
      | .nop => True
      | .sqKey _ => True
      | .sqClear => True
      | .tfKey _ => True
      | .tfClear => True
      | .sha1Comp _ _ => True
      | .sha256Comp _ _ => True
      | .clearAll => True

/-- While RST is held every register and array keeps its reset value (R290). -/
def ResetHeld (s : State) : Prop :=
  s.rst = true → s = { State.reset with rst := true, response := s.response, inputs := s.inputs }

/-- The invariant of the core, kept by every step. -/
structure Inv (s : State) : Prop where
  errors : ErrorsAgree s
  square : SquareLifecycle s
  twofish : TwofishLifecycle s
  flight : FlightAccepted s
  resetHeld : ResetHeld s

/-- The next event asserts RST (R290). -/
def Resetting (s : State) : Prop := ∃ rest, s.inputs = .rst true :: rest

/-- The next event is the commit of the command in flight `f` (R236). -/
def Committing (s : State) (f : Flight) : Prop := s.seq = .busy f ∧ (s.inputs = [] ∨ ∃ rest, s.inputs = .commit :: rest)

/-- The next event is an admitted host write of `v` to the register `r`, with RST released (R62, R68). -/
def Writing (s : State) (r : Reg) (v : Word) : Prop :=
  s.rst = false ∧ ∃ rest, s.inputs = .hostWrite r.offset 4 v :: rest

/-- A cipher command whose engine holds no schedule (R231, R264). -/
def Unkeyed (i : Instr) (s : State) : Prop :=
  match i with
  | .sqEnc => s.sqKeyed = false
  | .sqDec => s.sqKeyed = false
  | .tfEnc => s.tfKeyed = false
  | .tfDec => s.tfKeyed = false
  | .nop => False
  | .sqKey => False
  | .sqClear => False
  | .tfKey _ => False
  | .tfClear => False
  | .sha1Comp => False
  | .sha256Comp => False
  | .clearAll => False

/-- Two states a host cannot tell apart by reading registers: they may differ in KEY, in both schedules and in the
command in flight with its snapshot, the state R47 calls hidden and the registers R23 makes write-only. -/
def SameToReads (s t : State) : Prop :=
  s.ie = t.ie ∧ s.done = t.done ∧ s.err = t.err ∧ s.errcode = t.errcode ∧ s.busy = t.busy ∧
  s.sqKeyed = t.sqKeyed ∧ s.tfKeyed = t.tfKeyed ∧ s.tfKlen = t.tfKlen ∧
  s.din = t.din ∧ s.dout = t.dout ∧ s.dig = t.dig ∧ s.msg = t.msg

/-- What the environment does in a timed input (R237): a host access or a change of RST. A clock edge is none, and neither
is a `commit`, which the clock places. -/
def TimedInput.environment (i : TimedInput) : Option Event :=
  match i with
  | .clock => none
  | .event (.hostRead off size) => some (.hostRead off size)
  | .event (.hostWrite off size v) => some (.hostWrite off size v)
  | .event .commit => none
  | .event (.rst level) => some (.rst level)

/-- A turn of the program's own host. -/
def HostTurn.isHost (u : HostTurn) : Bool :=
  match u with
  | .host _ => true
  | .other _ => false

/-- The timed bookkeeping is sound: a command in flight has at least one cycle left, an idle core none (R42). -/
def TimedInv (t : TimedState) : Prop := t.left = 0 ↔ t.core.seq = .idle

end Sys2Proof.Machine
end

