-- ==== Sys2Proof/Certificates/Slice0/Obligations.lean ====
section
/-! DEFINITION. The statements for the provers (listed in OBLIGATIONS.json), from the numbered rules of spec/. -/

open Sys2Proof Sys2Proof.Machine

/-! ### Encoding (spec/30_encoding.md) -/

/-- Decoding and encoding agree in both directions: a word decodes to an operation exactly when that operation is
well-formed and the word is its encoding, so no bit of a command word is dropped (R90, R93, R98). -/
def Obligations.DecodeExactlyInvertsEncode : Prop :=
  ∀ (c : Word) (i : Instr), decode c = .op i ↔ (i.WellFormed ∧ encode i = c)

/-- The fourteen command words of R93's table, and what the decoder reads from each of them. -/
def Obligations.CommandWordsOfTheTable : Prop :=
  (encode .nop = 0x00000000 ∧ encode .sqKey = 0x00000001 ∧ encode .sqEnc = 0x00000002 ∧ encode .sqDec = 0x00000003 ∧
    encode .sqClear = 0x00000004 ∧ encode (.tfKey 0b00) = 0x00000011 ∧ encode (.tfKey 0b01) = 0x00000111 ∧
    encode (.tfKey 0b10) = 0x00000211 ∧ encode .tfEnc = 0x00000012 ∧ encode .tfDec = 0x00000013 ∧
    encode .tfClear = 0x00000014 ∧ encode .sha1Comp = 0x00000021 ∧ encode .sha256Comp = 0x00000022 ∧
    encode .clearAll = 0x0000003F) ∧
  (decode 0x00000000 = .op .nop ∧ decode 0x00000001 = .op .sqKey ∧ decode 0x00000002 = .op .sqEnc ∧
    decode 0x00000003 = .op .sqDec ∧ decode 0x00000004 = .op .sqClear ∧ decode 0x00000011 = .op (.tfKey 0b00) ∧
    decode 0x00000111 = .op (.tfKey 0b01) ∧ decode 0x00000211 = .op (.tfKey 0b10) ∧ decode 0x00000012 = .op .tfEnc ∧
    decode 0x00000013 = .op .tfDec ∧ decode 0x00000014 = .op .tfClear ∧ decode 0x00000021 = .op .sha1Comp ∧
    decode 0x00000022 = .op .sha256Comp ∧ decode 0x0000003F = .op .clearAll)

/-- The illegal words are exactly those of R95, R96 and R97: a non-zero RSVD, an OP among the 244 unassigned values, or a
non-zero KLEN on an OP other than TF_KEY; and a write of one of them while SEQ is IDLE is rejected with ILLEGAL_CMD
and has no other effect (R261, R266). -/
def Obligations.IllegalWordsAreRejected : Prop :=
  ∀ c : Word,
    (decode c = .illegal ↔
      (c.extractLsb' 10 22 ≠ 0 ∨
        (let op := (c.extractLsb' 0 8).toNat
         (0x05 ≤ op ∧ op ≤ 0x10) ∨ (0x15 ≤ op ∧ op ≤ 0x20) ∨ (0x23 ≤ op ∧ op ≤ 0x3E) ∨ 0x40 ≤ op) ∨
        (c.extractLsb' 0 8 ≠ 0x11 ∧ c.extractLsb' 8 2 ≠ 0b00))) ∧
    ∀ s : State, s.seq = .idle → decode c = .illegal →
      issue c s = .next { s with err := true, errcode := if s.err then s.errcode else .illegalCmd }

/-- TF_KEY with KLEN = 0b11 is the one word rejected with BAD_KLEN, and the rejection leaves the Twofish schedule,
TF_KEYED and TF_KLEN as they were (R262). -/
def Obligations.UnsupportedKeyLengthIsRejected : Prop :=
  (∀ c : Word, decode c = .badKlen ↔ (c.extractLsb' 10 22 = 0 ∧ c.extractLsb' 0 8 = 0x11 ∧ c.extractLsb' 8 2 = 0b11)) ∧
  ∀ (c : Word) (s : State), s.seq = .idle → decode c = .badKlen →
    issue c s = .next { s with err := true, errcode := if s.err then s.errcode else .badKlen }

/-! ### The step -/

/-- A step runs the decoded command: when the next event is a CMD write of a word that decodes to `i`, with SEQ IDLE
and RST released, the step is `exec i` at that state with the event taken off the order and the write answered (the
order and the answer are the model's own fields, notes/assumptions/3.md and 6.md). -/
def Obligations.StepRunsTheDecodedCommand : Prop :=
  ∀ (s : State) (c : Word) (i : Instr) (rest : List Event),
    s.inputs = .hostWrite Reg.cmd.offset 4 c :: rest → s.rst = false → s.seq = .idle → decode c = .op i →
    step s = exec i { s with inputs := rest, response := .written }

/-- A step commits the command in flight at a commit event, and when no event is left, by that command's own rule
(R234, R236). That an empty list of events lets the commit happen is the model's choice (notes/assumptions/4.md). -/
def Obligations.StepCommitsTheCommandInFlight : Prop :=
  ∀ (s : State) (f : Flight), s.seq = .busy f →
    (∀ rest, s.inputs = .commit :: rest → step s = exec f.instr { s with inputs := rest }) ∧
    (s.inputs = [] → step s = exec f.instr s)

/-- Nothing stops the core: every step of every state answers a next state (R268, R269, R288). That nothing stops it is
read from those rules (notes/assumptions/14.md, DEDUCED); that a step answers a next state, with every register as it
was, where no event is enabled (SEQ IDLE with no event or a commit next) is the model's choice (notes/assumptions/4.md). -/
def Obligations.EveryStepAnswersANextState : Prop :=
  ∀ s : State, ∃ t, step s = .next t

/-! ### The register window (spec/20_memory.md, spec/10_state.md §4) -/

/-- A read of any offset and any width changes no state but the answer on the bus, and two reads with no event between
them return the same value (R64). -/
def Obligations.ReadsChangeNoState : Prop :=
  ∀ (s : State) (off : BitVec 8) (size : Nat), ∃ r,
    perform (.hostRead off size) s = .next { s with response := r } ∧
    perform (.hostRead off size) { s with response := r } = .next { s with response := r }

/-- What an admitted read returns, offset by offset, in any sequencer state (R67). -/
def Obligations.ReadReturnsTheWindow : Prop :=
  ∀ s : State, s.rst = false →
    (∀ off : BitVec 8, off.toNat % 4 = 0 → perform (.hostRead off 4) s = .next { s with response := .data (hostRead s off) }) ∧
    hostRead s 0x00 = (if s.ie then 1 else 0) ∧
    hostRead s 0x04 = 0 ∧
    hostRead s 0x08 = s.statusWord ∧
    hostRead s 0x0C = Config.pCoreId ∧
    (∀ i : Fin 8, hostRead s (BitVec.ofNat 8 (0x10 + 4 * i.val)) = 0) ∧
    (∀ i : Fin 4, hostRead s (BitVec.ofNat 8 (0x30 + 4 * i.val)) = s.din[i]) ∧
    (∀ i : Fin 4, hostRead s (BitVec.ofNat 8 (0x40 + 4 * i.val)) = s.dout[i]) ∧
    (∀ i : Fin 8, hostRead s (BitVec.ofNat 8 (0x50 + 4 * i.val)) = s.dig[i]) ∧
    (∀ i : Fin 16, hostRead s (BitVec.ofNat 8 (0x80 + 4 * i.val)) = s.msg[i]) ∧
    (∀ i : Fin 4, hostRead s (BitVec.ofNat 8 (0x70 + 4 * i.val)) = 0) ∧
    (∀ i : Fin 16, hostRead s (BitVec.ofNat 8 (0xC0 + 4 * i.val)) = 0)

/-- What an admitted write does, offset by offset, in any sequencer state; each clause gives the whole next state, so
everything else is unchanged (R68). `s` is the state with the event taken off the order. -/
def Obligations.WriteChangesOnlyItsRegister : Prop :=
  ∀ (s : State) (v : Word), s.rst = false →
    perform (.hostWrite 0x00 4 v) s = .next { s with response := .written, ie := v.getLsbD 0 } ∧
    perform (.hostWrite 0x04 4 v) s = issue v { s with response := .written } ∧
    perform (.hostWrite 0x08 4 v) s = .next (State.statusW1C { s with response := .written } v) ∧
    perform (.hostWrite 0x0C 4 v) s = .next { s with response := .written } ∧
    (∀ i : Fin 8, perform (.hostWrite (BitVec.ofNat 8 (0x10 + 4 * i.val)) 4 v) s
      = .next { s with response := .written, key := s.key.set i v }) ∧
    (∀ i : Fin 4, perform (.hostWrite (BitVec.ofNat 8 (0x30 + 4 * i.val)) 4 v) s
      = .next { s with response := .written, din := s.din.set i v }) ∧
    (∀ i : Fin 4, perform (.hostWrite (BitVec.ofNat 8 (0x40 + 4 * i.val)) 4 v) s = .next { s with response := .written }) ∧
    (∀ i : Fin 8, perform (.hostWrite (BitVec.ofNat 8 (0x50 + 4 * i.val)) 4 v) s
      = .next { s with response := .written, dig := s.dig.set i v }) ∧
    (∀ i : Fin 16, perform (.hostWrite (BitVec.ofNat 8 (0x80 + 4 * i.val)) 4 v) s
      = .next { s with response := .written, msg := s.msg.set i v }) ∧
    (∀ i : Fin 4, perform (.hostWrite (BitVec.ofNat 8 (0x70 + 4 * i.val)) 4 v) s = .next { s with response := .written }) ∧
    (∀ i : Fin 16, perform (.hostWrite (BitVec.ofNat 8 (0xC0 + 4 * i.val)) 4 v) s = .next { s with response := .written })

/-- A host access of another width than 4 bytes, or at an offset that is no multiple of 4, gets a bus error response
and changes no state of the core; every other access is the `HostRead` or the `HostWrite` of its offset (R62). -/
def Obligations.MalformedAccessGetsABusError : Prop :=
  (∀ (s : State) (off : BitVec 8) (size : Nat) (v : Word), s.rst = false → (size ≠ 4 ∨ off.toNat % 4 ≠ 0) →
    perform (.hostRead off size) s = .next { s with response := .busError off } ∧
    perform (.hostWrite off size v) s = .next { s with response := .busError off }) ∧
  (∀ (s : State) (off : BitVec 8) (v : Word), s.rst = false → off.toNat % 4 = 0 →
    perform (.hostRead off 4) s = .next { s with response := .data (hostRead s off) } ∧
    perform (.hostWrite off 4 v) s = hostWrite off v { s with response := .written })

/-- A STATUS write clears DONE if bit 1 is set and ERR with ERRCODE if bit 2 is set, and nothing else: every other bit
of the value is ignored and no other field changes (R69). -/
def Obligations.StatusWriteClearsDoneAndError : Prop :=
  ∀ (s : State) (v : Word), s.rst = false →
    perform (.hostWrite Reg.status.offset 4 v) s = .next { s with
      response := .written
      done := if v.getLsbD 1 then false else s.done
      err := if v.getLsbD 2 then false else s.err
      errcode := if v.getLsbD 2 then .none else s.errcode }

/-- The layout of the word a read of STATUS returns, bit by bit, with ERRCODE's values of R260 (R38). -/
def Obligations.StatusWordLayout : Prop :=
  ∀ s : State,
    hostRead s Reg.status.offset = s.statusWord ∧
    s.statusWord.getLsbD 0 = s.busy ∧ s.statusWord.getLsbD 1 = s.done ∧ s.statusWord.getLsbD 2 = s.err ∧
    s.statusWord.getLsbD 3 = s.sqKeyed ∧ s.statusWord.getLsbD 4 = s.tfKeyed ∧ s.statusWord.extractLsb' 5 2 = s.tfKlen ∧
    s.statusWord.getLsbD 7 = false ∧ s.statusWord.extractLsb' 12 20 = 0 ∧
    s.statusWord.extractLsb' 8 4 = (match s.errcode with
      | .none => 0x0 | .illegalCmd => 0x1 | .badKlen => 0x2 | .notKeyed => 0x3 | .cmdBusy => 0x4)

/-- Reserved offsets and the reserved bits of CTRL and STATUS read 0, and a write to them has no effect and raises no
error (R66). -/
def Obligations.ReservedSpaceReadsZeroAndIgnoresWrites : Prop :=
  ∀ (s : State) (v : Word),
    (∀ off : BitVec 8, off.toNat % 4 = 0 → (0x70 ≤ off.toNat ∧ off.toNat ≤ 0x7C) ∨ 0xC0 ≤ off.toNat →
      hostRead s off = 0 ∧ hostWrite off v s = .next s) ∧
    (∀ b, 1 ≤ b → b < 32 → (hostRead s Reg.ctrl.offset).getLsbD b = false) ∧
    (∀ b, b = 7 ∨ (12 ≤ b ∧ b < 32) → (hostRead s Reg.status.offset).getLsbD b = false) ∧
    hostWrite Reg.ctrl.offset v s = hostWrite Reg.ctrl.offset (v &&& 0x1) s ∧
    hostWrite Reg.status.offset v s = hostWrite Reg.status.offset (v &&& 0x6) s

/-- The register window of R22: each register stands at its offset, every slot of the window is a register or reserved,
and the core decodes exactly the 256 bytes from `P_BASE` (R22, R72). -/
def Obligations.WindowMapIsFaithful : Prop :=
  (∀ r : Reg, regAt r.offset = r ∧ r.offset.toNat % 4 = 0) ∧
  (∀ off : BitVec 8, off.toNat % 4 = 0 → (regAt off).offset = off ∨ regAt off = .reserved) ∧
  (∀ off : BitVec 8, busOffset (Config.pBase + off.toNat) = some off) ∧
  (∀ addr, addr < Config.pBase ∨ Config.pBase + 256 ≤ addr → ∀ (size : Nat) (v : Word),
    memRead addr size = [] ∧ memWrite addr size v = [])

/-- The interrupt line: IE and (DONE or ERR), at once after a CTRL write; high after a commit or a rejection exactly when
IE is 1, low after both causes are cleared, after IE is cleared (which leaves DONE and ERR pending) and after reset
(R45, R70, R275). -/
def Obligations.InterruptLineFollowsItsCauses : Prop :=
  ∀ (s : State) (v : Word) (code : ErrCode),
    s.irq = (s.ie && (s.done || s.err)) ∧
    (s.writeReg .ctrl v).irq = (v.getLsbD 0 && (s.done || s.err)) ∧
    (s.writeReg .ctrl v).done = s.done ∧ (s.writeReg .ctrl v).err = s.err ∧
    s.finish.irq = s.ie ∧ (s.cmdError code).irq = s.ie ∧
    (v.getLsbD 1 = true → v.getLsbD 2 = true → (s.statusW1C v).irq = false) ∧
    s.assertReset.irq = false ∧ State.reset.irq = false

/-- A host cannot read a secret back: two states that differ only in KEY, the schedules and the command in flight with
its snapshot, while SEQ's BUSY bit is the same, answer every read and every write alike, and after it they still differ
in nothing else a read shows (R23, R47, R280). -/
def Obligations.ReadsRevealNoSecret : Prop :=
  ∀ s t : State, SameToReads s t → s.rst = t.rst → ∀ (off : BitVec 8) (size : Nat), ∃ r,
    perform (.hostRead off size) s = .next { s with response := r } ∧
    perform (.hostRead off size) t = .next { t with response := r } ∧
    ∀ v : Word, ∃ s' t', perform (.hostWrite off size v) s = .next s' ∧ perform (.hostWrite off size v) t = .next t' ∧
      s'.response = t'.response ∧ SameToReads s' t' ∧ s'.rst = t'.rst

/-! ### Rejections (spec/60_exceptions.md) -/

/-- Every CMD write while a command is in flight, whatever the word, is rejected with CMD_BUSY; it is dropped and the
command in flight is not disturbed (R263). -/
def Obligations.EveryWordIsRejectedWhileBusy : Prop :=
  ∀ (s : State) (f : Flight) (c : Word), s.seq = .busy f →
    issue c s = .next { s with err := true, errcode := if s.err then s.errcode else .cmdBusy }

/-- One cause is reported, in the order CMD_BUSY, ILLEGAL_CMD, BAD_KLEN, NOT_KEYED; a word with no cause is accepted
with ERR and ERRCODE unchanged. R265's two examples close the statement. -/
def Obligations.RejectionPriority : Prop :=
  (∀ (s : State) (c : Word),
    (s.seq ≠ .idle → issue c s = .next (s.cmdError .cmdBusy)) ∧
    (s.seq = .idle → decode c = .illegal → issue c s = .next (s.cmdError .illegalCmd)) ∧
    (s.seq = .idle → decode c = .badKlen → issue c s = .next (s.cmdError .badKlen)) ∧
    (∀ i, s.seq = .idle → decode c = .op i → Unkeyed i s → issue c s = .next (s.cmdError .notKeyed)) ∧
    (∀ i, s.seq = .idle → decode c = .op i → ¬ Unkeyed i s →
      ∃ f, f.instr = i ∧ issue c s = .next { s with seq := .busy f, done := false })) ∧
  (∀ s : State, s.seq ≠ .idle → s.tfKeyed = false → issue 0x00000013 s = .next (s.cmdError .cmdBusy)) ∧
  (∀ s : State, s.seq = .idle → s.tfKeyed = false → issue 0x00000312 s = .next (s.cmdError .illegalCmd))

/-- NOT_KEYED is raised by a cipher command on an engine with no schedule, and by no other command (R264). -/
def Obligations.CipherCommandsNeedASchedule : Prop :=
  (∀ s : State, s.seq = .idle → s.sqKeyed = false → ∀ i, i = .sqEnc ∨ i = .sqDec →
    issue (encode i) s = .next { s with err := true, errcode := if s.err then s.errcode else .notKeyed }) ∧
  (∀ s : State, s.seq = .idle → s.tfKeyed = false → ∀ i, i = .tfEnc ∨ i = .tfDec →
    issue (encode i) s = .next { s with err := true, errcode := if s.err then s.errcode else .notKeyed }) ∧
  (∀ (s t : State) (i : Instr), s.seq = .idle → s.errcode ≠ .notKeyed → i ≠ .sqEnc → i ≠ .sqDec → i ≠ .tfEnc →
    i ≠ .tfDec → issue (encode i) s = .next t → t.errcode ≠ .notKeyed)

/-- The effect of a rejection: ERR is set, the first code since ERR was clear is kept, and nothing else changes, DONE
included; writing 1 to STATUS bit 2 clears ERR and ERRCODE together (R266). -/
def Obligations.RejectionRecordsTheFirstCode : Prop :=
  ∀ (s : State) (code later : ErrCode) (v : Word),
    (s.err = false → s.cmdError code = { s with err := true, errcode := code }) ∧
    (s.err = true → s.cmdError code = s) ∧
    (s.cmdError code).cmdError later = s.cmdError code ∧
    (v.getLsbD 2 = true → ((s.cmdError code).statusW1C v).err = false ∧ ((s.cmdError code).statusW1C v).errcode = .none)

/-- The rule of ERR: every rejected CMD write sets it, an accepted one leaves it, a STATUS write with bit 2 set clears it
with ERRCODE, and so does a reset; and no step changes ERR or ERRCODE in any other way, no commit in particular (R33). -/
def Obligations.OnlyRejectionsSetTheErrorFlag : Prop :=
  (∀ (s t : State) (c : Word), issue c s = .next t → (t.seq = s.seq → t.err = true) ∧ (t.seq ≠ s.seq → t.err = s.err)) ∧
  (∀ (s : State) (v : Word), v.getLsbD 2 = true → (s.statusW1C v).err = false ∧ (s.statusW1C v).errcode = .none) ∧
  (∀ s : State, s.assertReset.err = false ∧ s.assertReset.errcode = .none) ∧
  (∀ s t : State, step s = .next t → (t.err ≠ s.err ∨ t.errcode ≠ s.errcode) →
    (∃ c, Writing s .cmd c ∧ t.err = true ∧ t.seq = s.seq ∧ t.done = s.done) ∨
    (∃ v, Writing s .status v ∧ v.getLsbD 2 = true ∧ t.err = false ∧ t.errcode = .none) ∨
    (Resetting s ∧ t.err = false ∧ t.errcode = .none))

/-- The rule of DONE: set by the commit of every accepted command, cleared by the issue of an accepted command, by a
STATUS write with bit 1 set and by reset, unchanged by a rejected command (R32). -/
def Obligations.DoneMarksTheLastCommit : Prop :=
  (∀ (s : State) (f : Flight), s.seq = .busy f → ∃ t, commitEvent s = .next t ∧ t.done = true) ∧
  (∀ (s t : State) (c : Word), s.seq = .idle → issue c s = .next t → t.seq ≠ .idle → t.done = false) ∧
  (∀ (s : State) (v : Word), v.getLsbD 1 = true → (s.statusW1C v).done = false) ∧
  (∀ s : State, s.assertReset.done = false) ∧
  (∀ (s t : State) (c : Word), issue c s = .next t → t.seq = s.seq → t.done = s.done)

/-! ### The sequencer (spec/44_control.md) -/

/-- SEQ changes in three ways only: an accepted CMD write takes it from IDLE to BUSY with that command, clearing DONE; the
commit takes it back to IDLE, setting DONE; a reset takes it to IDLE (R230). -/
def Obligations.SequencerHasNoOtherTransition : Prop :=
  ∀ s t : State, step s = .next t → t.seq ≠ s.seq →
    (s.seq = .idle ∧ ∃ c i f, Writing s .cmd c ∧ decode c = .op i ∧ f.instr = i ∧ t.seq = .busy f ∧ t.done = false) ∨
    (∃ f, Committing s f ∧ t.seq = .idle ∧ t.done = true) ∨
    (Resetting s ∧ t.seq = .idle)

/-- The commit part of every operation, with SEQ back to IDLE, DONE set and nothing else changed; ERR and ERRCODE are never
changed by a commit, and no commit fails (R234). -/
def Obligations.CommitOfEveryOperation : Prop :=
  ∀ (s : State) (f : Flight), s.seq = .busy f →
    commitEvent s = .next (match f with
      | .nop => { s with seq := .idle, done := true }
      | .sqKey k => { s with sq := squareSchedule k, sqKeyed := true, seq := .idle, done := true }
      | .sqEnc d => { s with dout := squareEncrypt s.sq d, seq := .idle, done := true }
      | .sqDec d => { s with dout := squareDecrypt s.sq d, seq := .idle, done := true }
      | .sqClear => { s with sq := .zero, sqKeyed := false, seq := .idle, done := true }
      | .tfKey k => { s with
          tf := twofishSchedule k, tfKeyed := true, tfKlen := twofishKlen k, seq := .idle, done := true }
      | .tfEnc d => { s with dout := twofishEncrypt s.tf d, seq := .idle, done := true }
      | .tfDec d => { s with dout := twofishDecrypt s.tf d, seq := .idle, done := true }
      | .tfClear => { s with tf := .zero, tfKeyed := false, tfKlen := 0b00, seq := .idle, done := true }
      | .sha1Comp h m => { s with
          dig := #v[(sha1Compress h m)[0], (sha1Compress h m)[1], (sha1Compress h m)[2], (sha1Compress h m)[3],
            (sha1Compress h m)[4], s.dig[5], s.dig[6], s.dig[7]]
          seq := .idle, done := true }
      | .sha256Comp h m => { s with dig := sha256Compress h m, seq := .idle, done := true }
      | .clearAll => { s with
          sq := .zero, sqKeyed := false, tf := .zero, tfKeyed := false, tfKlen := 0b00
          key := Vector.replicate 8 0, din := Vector.replicate 4 0, dout := Vector.replicate 4 0
          dig := Vector.replicate 8 0, msg := Vector.replicate 16 0, seq := .idle, done := true })

/-- Who writes a schedule: a schedule and its KEYED flag change only at the commit of that engine's key or clear command,
at the commit of CLEAR_ALL and at reset (R34, R35, R36, R238, R239). -/
def Obligations.OnlyKeyAndClearCommandsChangeASchedule : Prop :=
  ∀ s t : State, step s = .next t →
    ((t.sq ≠ s.sq ∨ t.sqKeyed ≠ s.sqKeyed) →
      Resetting s ∨ Committing s .sqClear ∨ Committing s .clearAll ∨ ∃ k, Committing s (.sqKey k)) ∧
    ((t.tf ≠ s.tf ∨ t.tfKeyed ≠ s.tfKeyed ∨ t.tfKlen ≠ s.tfKlen) →
      Resetting s ∨ Committing s .tfClear ∨ Committing s .clearAll ∨ ∃ k, Committing s (.tfKey k))

/-- Who writes each data register and IE: hosts write CTRL, KEY, DIN, DIG and MSG; the four cipher commands write DOUT and
the two hash commands DIG, at their commits; CLEAR_ALL and reset zero the data registers; only reset and a host
change IE (R23-R26, R28, R29, R291). -/
def Obligations.OnlyTheNamedEventsWriteTheDataRegisters : Prop :=
  ∀ s t : State, step s = .next t →
    (t.ie ≠ s.ie → Resetting s ∨ ∃ v, Writing s .ctrl v) ∧
    (t.key ≠ s.key → Resetting s ∨ Committing s .clearAll ∨ ∃ i v, Writing s (.key i) v) ∧
    (t.din ≠ s.din → Resetting s ∨ Committing s .clearAll ∨ ∃ i v, Writing s (.din i) v) ∧
    (t.dout ≠ s.dout → Resetting s ∨ Committing s .clearAll ∨
      ∃ d, Committing s (.sqEnc d) ∨ Committing s (.sqDec d) ∨ Committing s (.tfEnc d) ∨ Committing s (.tfDec d)) ∧
    (t.dig ≠ s.dig → Resetting s ∨ Committing s .clearAll ∨ (∃ i v, Writing s (.dig i) v) ∨
      (∃ h m, Committing s (.sha1Comp h m)) ∨ ∃ h m, Committing s (.sha256Comp h m)) ∧
    (t.msg ≠ s.msg → Resetting s ∨ Committing s .clearAll ∨ ∃ i v, Writing s (.msg i) v)

/-- Operands are read at issue: whatever a host reads or writes between the issue and the commit, the commit's result is
the one the snapshot gives, no schedule and no output block changes before it, a SHA commit overwrites DIG0-DIG4 or
DIG0-DIG7 and so drops host writes made there, and host writes to DIG5-DIG7 during SHA1_COMP survive (R76). -/
def Obligations.HostAccessesDoNotReachTheCommandInFlight : Prop :=
  ∀ (s : State) (f : Flight) (es : List Event), s.seq = .busy f → (∀ e ∈ es, e.isHost = true) →
    s.inputs = es ++ [.commit] → ∃ u t,
      Sys2Proof.core.run es.length s = .next u ∧ Sys2Proof.core.run (es.length + 1) s = .next t ∧
      u.seq = .busy f ∧ u.sq = s.sq ∧ u.tf = s.tf ∧ u.dout = s.dout ∧ t.seq = .idle ∧ t.done = true ∧
      (match f with
        | .nop => t.dout = s.dout ∧ t.sq = s.sq ∧ t.tf = s.tf
        | .sqKey k => t.sq = squareSchedule k ∧ t.sqKeyed = true ∧ t.tf = s.tf
        | .sqEnc d => t.dout = squareEncrypt s.sq d
        | .sqDec d => t.dout = squareDecrypt s.sq d
        | .sqClear => t.sq = .zero ∧ t.sqKeyed = false ∧ t.tf = s.tf
        | .tfKey k => t.tf = twofishSchedule k ∧ t.tfKeyed = true ∧ t.tfKlen = twofishKlen k ∧ t.sq = s.sq
        | .tfEnc d => t.dout = twofishEncrypt s.tf d
        | .tfDec d => t.dout = twofishDecrypt s.tf d
        | .tfClear => t.tf = .zero ∧ t.tfKeyed = false ∧ t.tfKlen = 0b00 ∧ t.sq = s.sq
        | .sha1Comp h m => t.msg = u.msg ∧ t.dig[0] = (sha1Compress h m)[0] ∧ t.dig[1] = (sha1Compress h m)[1] ∧
            t.dig[2] = (sha1Compress h m)[2] ∧ t.dig[3] = (sha1Compress h m)[3] ∧ t.dig[4] = (sha1Compress h m)[4] ∧
            t.dig[5] = u.dig[5] ∧ t.dig[6] = u.dig[6] ∧ t.dig[7] = u.dig[7]
        | .sha256Comp h m => t.dig = sha256Compress h m ∧ t.msg = u.msg
        | .clearAll => t.key = Vector.replicate 8 0 ∧ t.din = Vector.replicate 4 0 ∧ t.dig = Vector.replicate 8 0 ∧
            t.msg = Vector.replicate 16 0 ∧ t.dout = Vector.replicate 4 0 ∧ t.sq = .zero ∧ t.tf = .zero)

/-- Every accepted command commits unless reset intervenes: with no change of RST among the events to come, the core
reaches the end of the command within one step more than there are events (R236). The bound rests on the model's choice
that the commit happens when no event is left (notes/assumptions/4.md). -/
def Obligations.EveryAcceptedCommandCommits : Prop :=
  ∀ (s : State) (f : Flight), s.seq = .busy f → (∀ e ∈ s.inputs, e.isNotReset = true) →
    ∃ k t, k ≤ s.inputs.length + 1 ∧ Sys2Proof.core.run k s = .next t ∧ t.seq = .idle ∧ t.done = true

/-- The safe issue protocol ends in exactly one of its two outcomes: with one host, whatever the order of its accesses and
of commits, EXEC from an idle core can end only with the core idle and one of DONE and ERR set, the one its last read of
STATUS showed; and it has ended once its two writes, then a commit, then one more turn of the host have come (R100,
R297). Programs and turns are the model's host layer (notes/assumptions/15.md). -/
def Obligations.SafeIssueEndsInDoneOrError : Prop :=
  ∀ (s : State) (i : Instr) (turns : List HostTurn), s.seq = .idle → s.rst = false →
    (∀ e, HostTurn.other e ∈ turns → e = .commit) →
    (∀ w, (hostRun ⟨s, hostExec i .done⟩ turns).program = .done w →
      (hostRun ⟨s, hostExec i .done⟩ turns).core.seq = .idle ∧
      (hostRun ⟨s, hostExec i .done⟩ turns).core.done = w.getLsbD 1 ∧
      (hostRun ⟨s, hostExec i .done⟩ turns).core.err = w.getLsbD 2 ∧ w.getLsbD 1 ≠ w.getLsbD 2) ∧
    (∀ before bus after, turns = before ++ .other .commit :: .host bus :: after → 2 ≤ before.countP HostTurn.isHost →
      ∃ w, (hostRun ⟨s, hostExec i .done⟩ turns).program = .done w)

/-! ### Time (spec/44_control.md R235, R236) -/

/-- In the timed reading a command commits exactly `LAT_<op>` clock cycles after its issue, whatever the host does and
short of a reset: an issue starts the count at the latency, which is positive; the command stays in flight as long
as fewer cycles have passed, and the clock edge that completes the count commits it (the timed layer is the model's,
notes/assumptions/11.md). -/
def Obligations.CommitFallsExactlyAtItsLatency : Prop :=
  (∀ (e : Event) (t : TimedState) (f : Flight), t.core.seq = .idle → (timedEvent e t).core.seq = .busy f →
    (timedEvent e t).left = Config.latency (latencyOf f.instr) ∧ 0 < Config.latency (latencyOf f.instr)) ∧
  (∀ (t : TimedState) (f : Flight) (n : Nat) (inputs : List TimedInput), t.core.seq = .busy f → t.left = n + 1 →
    (∀ level, TimedInput.event (.rst level) ∉ inputs) → inputs.count .clock = n →
    (timedRun t inputs).core.seq = .busy f ∧ (timedRun t (inputs ++ [.clock])).core.seq = .idle ∧
      (timedRun t (inputs ++ [.clock])).core.done = true)

/-- Every behaviour of the timed reading (notes/assumptions/11.md) is a behaviour of the untimed step, under an order that
is the timed run's own host accesses and changes of RST, all of them and in their order, with commits put between them,
at most one for each clock edge (R4, R236, R237). -/
def Obligations.TimedRunsAreUntimedRuns : Prop :=
  ∀ (t : TimedState) (inputs : List TimedInput), ∃ es : List Event,
    es.filter (fun e => e ≠ .commit) = inputs.filterMap TimedInput.environment ∧
    es.count .commit ≤ inputs.count .clock ∧
    Sys2Proof.core.run es.length { t.core with inputs := es } = .next { (timedRun t inputs).core with inputs := [] }

/-! ### Reset (spec/70_reset_and_hazards.md, spec/10_state.md R48) -/

/-- The state after reset, as R48 gives it: every register and array zero, SEQ IDLE, both engines unkeyed, IRQ low, and ID
reading `P_CORE_ID`. -/
def Obligations.ResetStateIsAllZero : Prop :=
  State.reset.ctrlWord = 0 ∧ State.reset.statusWord = 0 ∧ hostRead State.reset Reg.id.offset = Config.pCoreId ∧
  (∀ i : Fin 8, State.reset.key[i] = 0) ∧ (∀ i : Fin 4, State.reset.din[i] = 0) ∧
  (∀ i : Fin 4, State.reset.dout[i] = 0) ∧ (∀ i : Fin 8, State.reset.dig[i] = 0) ∧
  (∀ i : Fin 16, State.reset.msg[i] = 0) ∧
  (∀ i : Fin 32, State.reset.sq.ek[i] = 0 ∧ State.reset.sq.dk[i] = 0 ∧ State.reset.sq.me[i] = 0 ∧
    State.reset.sq.md[i] = 0) ∧
  State.reset.sqKeyed = false ∧ (∀ i : Fin 40, State.reset.tf.rk[i] = 0) ∧
  (∀ (j : Fin 4) (x : Fin 256), State.reset.tf.sb[j][x] = 0) ∧
  State.reset.tfKeyed = false ∧ State.reset.tfKlen = 0b00 ∧ State.reset.seq = .idle ∧ State.reset.irq = false

/-- Asserting RST in any state gives the reset state, the command in flight with it; while RST is held no access is
answered or has an effect; after the release an access sees the reset state (R290). The level of RST, the answer and
the list of events are the model's own fields (notes/assumptions/3.md, 6.md, 7.md). -/
def Obligations.ResetAbandonsTheCommandAndZeroesTheCore : Prop :=
  (∀ (s : State) (rest : List Event), s.inputs = .rst true :: rest →
    step s = .next { State.reset with rst := true, inputs := rest }) ∧
  (∀ (s : State) (off : BitVec 8) (size : Nat) (v : Word), s.rst = true →
    perform (.hostRead off size) s = .next { s with response := .unanswered } ∧
    perform (.hostWrite off size v) s = .next { s with response := .unanswered }) ∧
  (∀ (s : State) (rest : List Event), s.inputs = .rst true :: .rst false :: rest →
    Sys2Proof.core.run 2 s = .next { State.reset with inputs := rest })

/-- The reset state satisfies the invariant. -/
def Obligations.ResetStateSatisfiesInv : Prop := Inv State.reset

/-- Every step keeps the invariant: ERR and ERRCODE agree, a keyed engine holds the schedule of some key and an unkeyed one
zeros, TF_KLEN reports the key's length, a command in flight has DONE 0 and a cipher command in flight a keyed engine,
and a held reset keeps every register. -/
def Obligations.EveryStepKeepsInv : Prop :=
  ∀ s t : State, Inv s → step s = .next t → Inv t

/-! ### The commands: each issue and each commit as a whole next state -/

/-- NOP (R232): the issue changes SEQ and DONE only, the commit SEQ and DONE only. -/
def Obligations.NopCompletes : Prop :=
  ∀ s : State,
    (s.seq = .idle → exec .nop s = .next { s with seq := .busy .nop, done := false }) ∧
    (s.seq = .busy .nop → exec .nop s = .next { s with seq := .idle, done := true })

/-- SQ_KEY (R150): the issue snapshots KEY0-KEY3; the commit loads the schedule of R146 and sets SQ_KEYED. -/
def Obligations.SquareKeyCompletes : Prop :=
  ∀ s : State,
    (s.seq = .idle → exec .sqKey s
      = .next { s with seq := .busy (.sqKey #v[s.key[0], s.key[1], s.key[2], s.key[3]]), done := false }) ∧
    (∀ k, s.seq = .busy (.sqKey k) → exec .sqKey s
      = .next { s with sq := squareSchedule k, sqKeyed := true, seq := .idle, done := true })

/-- SQ_ENC (R151): with SQ_KEYED = 1 the issue snapshots DIN; the commit writes DOUT; with SQ_KEYED = 0 it is rejected. -/
def Obligations.SquareEncryptCompletes : Prop :=
  ∀ s : State,
    (s.seq = .idle → s.sqKeyed = true → exec .sqEnc s = .next { s with seq := .busy (.sqEnc s.din), done := false }) ∧
    (s.seq = .idle → s.sqKeyed = false → exec .sqEnc s
      = .next { s with err := true, errcode := if s.err then s.errcode else .notKeyed }) ∧
    (∀ d, s.seq = .busy (.sqEnc d) → exec .sqEnc s
      = .next { s with dout := squareEncrypt s.sq d, seq := .idle, done := true })

/-- SQ_DEC (R152). -/
def Obligations.SquareDecryptCompletes : Prop :=
  ∀ s : State,
    (s.seq = .idle → s.sqKeyed = true → exec .sqDec s = .next { s with seq := .busy (.sqDec s.din), done := false }) ∧
    (s.seq = .idle → s.sqKeyed = false → exec .sqDec s
      = .next { s with err := true, errcode := if s.err then s.errcode else .notKeyed }) ∧
    (∀ d, s.seq = .busy (.sqDec d) → exec .sqDec s
      = .next { s with dout := squareDecrypt s.sq d, seq := .idle, done := true })

/-- SQ_CLEAR (R153): the commit zeroes the Square arrays and SQ_KEYED and nothing else. -/
def Obligations.SquareClearCompletes : Prop :=
  ∀ s : State,
    (s.seq = .idle → exec .sqClear s = .next { s with seq := .busy .sqClear, done := false }) ∧
    (s.seq = .busy .sqClear → exec .sqClear s = .next { s with
      sq := { ek := Vector.replicate 32 0, dk := Vector.replicate 32 0, me := Vector.replicate 32 0,
              md := Vector.replicate 32 0 }
      sqKeyed := false, seq := .idle, done := true })

/-- TF_KEY (R190): KLEN 0b00, 0b01 and 0b10 snapshot KEY0-KEY3, KEY0-KEY5 and KEY0-KEY7; KLEN 0b11 is rejected with
BAD_KLEN; the commit loads the schedule of R185 and sets TF_KEYED and TF_KLEN. -/
def Obligations.TwofishKeyCompletes : Prop :=
  ∀ s : State,
    (s.seq = .idle → exec (.tfKey 0b00) s = .next { s with
      seq := .busy (.tfKey (.bits128 #v[s.key[0], s.key[1], s.key[2], s.key[3]])), done := false }) ∧
    (s.seq = .idle → exec (.tfKey 0b01) s = .next { s with
      seq := .busy (.tfKey (.bits192 #v[s.key[0], s.key[1], s.key[2], s.key[3], s.key[4], s.key[5]])), done := false }) ∧
    (s.seq = .idle → exec (.tfKey 0b10) s = .next { s with seq := .busy (.tfKey (.bits256 s.key)), done := false }) ∧
    (s.seq = .idle → exec (.tfKey 0b11) s
      = .next { s with err := true, errcode := if s.err then s.errcode else .badKlen }) ∧
    (∀ k, s.seq = .busy (.tfKey k) → exec (.tfKey (twofishKlen k)) s = .next { s with
      tf := twofishSchedule k, tfKeyed := true, tfKlen := twofishKlen k, seq := .idle, done := true })

/-- TF_ENC (R191). -/
def Obligations.TwofishEncryptCompletes : Prop :=
  ∀ s : State,
    (s.seq = .idle → s.tfKeyed = true → exec .tfEnc s = .next { s with seq := .busy (.tfEnc s.din), done := false }) ∧
    (s.seq = .idle → s.tfKeyed = false → exec .tfEnc s
      = .next { s with err := true, errcode := if s.err then s.errcode else .notKeyed }) ∧
    (∀ d, s.seq = .busy (.tfEnc d) → exec .tfEnc s
      = .next { s with dout := twofishEncrypt s.tf d, seq := .idle, done := true })

/-- TF_DEC (R192). -/
def Obligations.TwofishDecryptCompletes : Prop :=
  ∀ s : State,
    (s.seq = .idle → s.tfKeyed = true → exec .tfDec s = .next { s with seq := .busy (.tfDec s.din), done := false }) ∧
    (s.seq = .idle → s.tfKeyed = false → exec .tfDec s
      = .next { s with err := true, errcode := if s.err then s.errcode else .notKeyed }) ∧
    (∀ d, s.seq = .busy (.tfDec d) → exec .tfDec s
      = .next { s with dout := twofishDecrypt s.tf d, seq := .idle, done := true })

/-- TF_CLEAR (R193): the commit zeroes the Twofish arrays, TF_KEYED and TF_KLEN and nothing else. -/
def Obligations.TwofishClearCompletes : Prop :=
  ∀ s : State,
    (s.seq = .idle → exec .tfClear s = .next { s with seq := .busy .tfClear, done := false }) ∧
    (s.seq = .busy .tfClear → exec .tfClear s = .next { s with
      tf := { rk := Vector.replicate 40 0, sb := Vector.replicate 4 (Vector.replicate 256 0) }
      tfKeyed := false, tfKlen := 0b00, seq := .idle, done := true })

/-- SHA1_COMP (R214): the issue snapshots DIG0-DIG4 and MSG; the commit writes DIG0-DIG4 and leaves DIG5-DIG7. -/
def Obligations.Sha1CompressCompletes : Prop :=
  ∀ s : State,
    (s.seq = .idle → exec .sha1Comp s = .next { s with
      seq := .busy (.sha1Comp #v[s.dig[0], s.dig[1], s.dig[2], s.dig[3], s.dig[4]] s.msg), done := false }) ∧
    (∀ h m, s.seq = .busy (.sha1Comp h m) → exec .sha1Comp s = .next { s with
      dig := #v[(sha1Compress h m)[0], (sha1Compress h m)[1], (sha1Compress h m)[2], (sha1Compress h m)[3],
        (sha1Compress h m)[4], s.dig[5], s.dig[6], s.dig[7]]
      seq := .idle, done := true })

/-- SHA256_COMP (R219): the issue snapshots DIG0-DIG7 and MSG; the commit writes DIG0-DIG7. -/
def Obligations.Sha256CompressCompletes : Prop :=
  ∀ s : State,
    (s.seq = .idle → exec .sha256Comp s = .next { s with seq := .busy (.sha256Comp s.dig s.msg), done := false }) ∧
    (∀ h m, s.seq = .busy (.sha256Comp h m) → exec .sha256Comp s
      = .next { s with dig := sha256Compress h m, seq := .idle, done := true })

/-- CLEAR_ALL (R233): after its commit every register and array holds its reset value, but for IE, ERR, ERRCODE and DONE,
which is 1 (and the model's own fields). -/
def Obligations.ClearAllCompletes : Prop :=
  ∀ s : State,
    (s.seq = .idle → exec .clearAll s = .next { s with seq := .busy .clearAll, done := false }) ∧
    (s.seq = .busy .clearAll → exec .clearAll s = .next { State.reset with
      ie := s.ie, err := s.err, errcode := s.errcode, done := true
      rst := s.rst, response := s.response, inputs := s.inputs })

/-! ### The engines -/

/-- The codec: the stores of R112 and the byte swap of R113, with their inverses and examples; `byte_le` counts from the
other end than `byte_be`. -/
def Obligations.CodecLoadsInvertStores : Prop :=
  (∀ w : Word, storeBe32 w = [byteBe 0 w, byteBe 1 w, byteBe 2 w, byteBe 3 w] ∧
    storeLe32 w = [byteLe 0 w, byteLe 1 w, byteLe 2 w, byteLe 3 w] ∧
    loadBe32 (byteBe 0 w) (byteBe 1 w) (byteBe 2 w) (byteBe 3 w) = w ∧
    loadLe32 (byteLe 0 w) (byteLe 1 w) (byteLe 2 w) (byteLe 3 w) = w ∧
    bswap32 w = byteLe 0 w ++ byteLe 1 w ++ byteLe 2 w ++ byteLe 3 w ∧ bswap32 (bswap32 w) = w) ∧
  (∀ b0 b1 b2 b3 : Byte, bswap32 (loadBe32 b0 b1 b2 b3) = loadLe32 b0 b1 b2 b3) ∧
  (∀ (n : Nat) (w : Word), n < 4 → byteLe n w = byteBe (3 - n) w) ∧
  storeLe32 0x04030201 = [0x01, 0x02, 0x03, 0x04] ∧ bswap32 0x01020304 = 0x04030201

/-- GF(2^8) multiplication: 0 and 1 behave as they must, the product distributes over exclusive-or on both sides, it
commutes in each of the three fields, and `ginv` gives the inverse of every non-zero byte of the Square field, 0 for 0 (R118,
R119, R121). -/
def Obligations.FieldMultiplicationLaws : Prop :=
  (∀ (p : BitVec 9) (a b c : Byte), gmul p a 0 = 0 ∧ gmul p 0 b = 0 ∧ gmul p a 1 = a ∧
    gmul p (a ^^^ b) c = gmul p a c ^^^ gmul p b c ∧ gmul p a (b ^^^ c) = gmul p a b ^^^ gmul p a c) ∧
  (∀ (p : BitVec 9) (a b : Byte), p = polySquare ∨ p = polyMds ∨ p = polyRs → gmul p a b = gmul p b a) ∧
  (∀ a : Byte, a ≠ 0 → gmul polySquare a (ginv polySquare a) = 1) ∧ ginv polySquare 0 = 0

/-- The Square S-boxes: SE is the affine image of field inversion, SD is its inverse permutation, and the T-tables are θ of
a row with one substituted byte, each a rotation of the first (R131, R132, R136). -/
def Obligations.SquareTablesFollowTheirConstruction : Prop :=
  (∀ x : Byte, squareSe x = squareL (ginv polySquare x) ^^^ 0xB1) ∧
  (∀ x : Byte, squareSd (squareSe x) = x ∧ squareSe (squareSd x) = x) ∧
  (∀ x : Byte, squareTe 0 x = thetaW (loadBe32 (squareSe x) 0 0 0) ∧ squareTe 1 x = thetaW (loadBe32 0 (squareSe x) 0 0) ∧
    squareTe 2 x = thetaW (loadBe32 0 0 (squareSe x) 0) ∧ squareTe 3 x = thetaW (loadBe32 0 0 0 (squareSe x))) ∧
  (∀ x : Byte, squareTd 0 x = thetaInvW (loadBe32 (squareSd x) 0 0 0) ∧ squareTd 1 x = thetaInvW (loadBe32 0 (squareSd x) 0 0) ∧
    squareTd 2 x = thetaInvW (loadBe32 0 0 (squareSd x) 0) ∧ squareTd 3 x = thetaInvW (loadBe32 0 0 0 (squareSd x))) ∧
  (∀ (k : Fin 4) (x : Byte), squareTe k x = rotr32 (squareTe 0 x) (8 * k) ∧ squareTd k x = rotr32 (squareTd 0 x) (8 * k))

/-- θw⁻¹ has the coefficients `d`, inverts θw on both sides, and acts row by row on a state; R135's example closes the
statement. -/
def Obligations.ThetaInverseInvertsTheta : Prop :=
  (∀ (w : Word) (j : Fin 4), byteBe j (thetaInvW w)
    = gmul 0x1F5 ([0x0E, 0x09, 0x0D, 0x0B].getD ((j + 4 - 0) % 4) 0) (byteBe 0 w)
      ^^^ gmul 0x1F5 ([0x0E, 0x09, 0x0D, 0x0B].getD ((j + 4 - 1) % 4) 0) (byteBe 1 w)
      ^^^ gmul 0x1F5 ([0x0E, 0x09, 0x0D, 0x0B].getD ((j + 4 - 2) % 4) 0) (byteBe 2 w)
      ^^^ gmul 0x1F5 ([0x0E, 0x09, 0x0D, 0x0B].getD ((j + 4 - 3) % 4) 0) (byteBe 3 w)) ∧
  (∀ w : Word, thetaInvW (thetaW w) = w ∧ thetaW (thetaInvW w) = w) ∧
  (∀ (a : Vector Word 4) (i : Fin 4), (squareThetaInv a)[i] = thetaInvW a[i]) ∧
  thetaInvW 0x02070005 = 0x00010203

/-- The published Square cipher's decryption inverts its encryption, for every key and block (R139). -/
def Obligations.SquareReferenceRoundTrip : Prop :=
  ∀ key p : Vector Word 4, squareDecReference key (squareEncReference key p) = p

/-- The datapath the core implements computes the published cipher: under the schedule of any key, SquareEncrypt is
Square_enc and SquareDecrypt is Square_dec, and so decryption inverts encryption (R149). -/
def Obligations.SquareDatapathIsThePublishedCipher : Prop :=
  ∀ key p : Vector Word 4,
    squareEncrypt (squareSchedule key) p = squareEncReference key p ∧
    squareDecrypt (squareSchedule key) p = squareDecReference key p ∧
    squareDecrypt (squareSchedule key) (squareEncrypt (squareSchedule key) p) = p

/-- Q0 and Q1 as tabulated are the permutations the nibble tables construct, and each is one-to-one (R171, R172). -/
def Obligations.TwofishPermutationsFollowTheirConstruction : Prop :=
  (∀ x : Byte, twofishQ0 x = qperm q0Nibbles x ∧ twofishQ1 x = qperm q1Nibbles x) ∧
  (∀ x y : Byte, (twofishQ0 x = twofishQ0 y → x = y) ∧ (twofishQ1 x = twofishQ1 y → x = y))

/-- The 40 round-key words of TF_KEY's schedule: the Pseudo-Hadamard combination of `h(2i·ρ, Me)` and
`rotl32(h((2i+1)·ρ, Mo), 8)` with `ρ = 0x01010101` (R179), with `Me`, `Mo` the even and odd little-endian key words. -/
def Obligations.TwofishRoundKeysFollowTheirRule : Prop :=
  ∀ (key : TwofishKey) (i : Fin 20),
    let me := (List.range (twofishDepth key)).map (fun n => bswap32 ((twofishKeyWords key).getD (2 * n) 0))
    let mo := (List.range (twofishDepth key)).map (fun n => bswap32 ((twofishKeyWords key).getD (2 * n + 1) 0))
    let a := twofishH (BitVec.ofNat 32 (2 * i) * 0x01010101) me
    let b := rotl32 (twofishH (BitVec.ofNat 32 (2 * i + 1) * 0x01010101) mo) 8
    (twofishSchedule key).rk[2 * i.val] = a + b ∧ (twofishSchedule key).rk[2 * i.val + 1] = rotl32 (a + 2 * b) 9

/-- The stored key-dependent S-boxes compute h under the reversed S words: `g(X)` is the four-lookup sum and equals
`h(X, SL)` for every key, key length and X (R180). -/
def Obligations.TwofishSboxesComputeH : Prop :=
  ∀ (key : TwofishKey) (x : Word),
    twofishG (twofishSchedule key) x
      = (twofishSchedule key).sb[0][(byteLe 0 x).toNat]'(byteLe 0 x).isLt
        ^^^ (twofishSchedule key).sb[1][(byteLe 1 x).toNat]'(byteLe 1 x).isLt
        ^^^ (twofishSchedule key).sb[2][(byteLe 2 x).toNat]'(byteLe 2 x).isLt
        ^^^ (twofishSchedule key).sb[3][(byteLe 3 x).toNat]'(byteLe 3 x).isLt ∧
    twofishG (twofishSchedule key) x = twofishH x (twofishSl key)

/-- Twofish decryption inverts encryption, in both orders, for every block under every schedule arrays, the schedules of all
keys of the three lengths among them (R184). -/
def Obligations.TwofishRoundTrip : Prop :=
  ∀ (a : TwofishSchedule) (d : Vector Word 4),
    twofishDecrypt a (twofishEncrypt a d) = d ∧ twofishEncrypt a (twofishDecrypt a d) = d

/-- SHA-1 compression is R213: the message schedule's recurrence, the 80 rounds and the final addition, with its two
examples. -/
def Obligations.Sha1CompressionFollowsItsRecurrences : Prop :=
  (∀ (h : Vector Word 5) (block : Vector Word 16), ∃ (w : Nat → Word) (v : Nat → Sha1Vars),
    (∀ t : Fin 16, w t = block[t]) ∧
    (∀ t, 16 ≤ t → t < 80 → w t = rotl32 (w (t - 3) ^^^ w (t - 8) ^^^ w (t - 14) ^^^ w (t - 16)) 1) ∧
    v 0 = ⟨h[0], h[1], h[2], h[3], h[4]⟩ ∧
    (∀ t, t < 80 → v (t + 1) =
      ⟨rotl32 (v t).a 5
        + (if t ≤ 19 then ((v t).b &&& (v t).c) ||| (~~~(v t).b &&& (v t).d)
           else if t ≤ 39 then (v t).b ^^^ (v t).c ^^^ (v t).d
           else if t ≤ 59 then ((v t).b &&& (v t).c) ||| ((v t).b &&& (v t).d) ||| ((v t).c &&& (v t).d)
           else (v t).b ^^^ (v t).c ^^^ (v t).d)
        + (v t).e
        + (if t ≤ 19 then 0x5A827999 else if t ≤ 39 then 0x6ED9EBA1 else if t ≤ 59 then 0x8F1BBCDC else 0xCA62C1D6)
        + w t,
        (v t).a, rotl32 (v t).b 30, (v t).c, (v t).d⟩) ∧
    sha1Compress h block
      = #v[h[0] + (v 80).a, h[1] + (v 80).b, h[2] + (v 80).c, h[3] + (v 80).d, h[4] + (v 80).e]) ∧
  sha1Compress #v[0x67452301, 0xEFCDAB89, 0x98BADCFE, 0x10325476, 0xC3D2E1F0]
      #v[0x61626380, 0, 0, 0, 0, 0, 0, 0, 0, 0, 0, 0, 0, 0, 0, 0x00000018]
    = #v[0xA9993E36, 0x4706816A, 0xBA3E2571, 0x7850C26C, 0x9CD0D89D] ∧
  sha1Compress (Vector.replicate 5 0) (Vector.replicate 16 0)
    = #v[0x9E1547ED, 0x57EC91C2, 0x30FA8BC8, 0xC7785A54, 0xA7EFA5E3]

/-- SHA-256 compression is R217 and R218 over the functions of R215: the message schedule's recurrence, the 64 rounds and
the final addition, with the two examples of R218. -/
def Obligations.Sha256CompressionFollowsItsRecurrences : Prop :=
  (∀ (h : Vector Word 8) (block : Vector Word 16), ∃ (w : Nat → Word) (v : Nat → Sha256Vars),
    (∀ t : Fin 16, w t = block[t]) ∧
    (∀ t, 16 ≤ t → t < 64 → w t =
      (rotr32 (w (t - 2)) 17 ^^^ rotr32 (w (t - 2)) 19 ^^^ (w (t - 2) >>> 10)) + w (t - 7)
        + (rotr32 (w (t - 15)) 7 ^^^ rotr32 (w (t - 15)) 18 ^^^ (w (t - 15) >>> 3)) + w (t - 16)) ∧
    v 0 = ⟨h[0], h[1], h[2], h[3], h[4], h[5], h[6], h[7]⟩ ∧
    (∀ t, t < 64 → ∃ t1 t2 : Word,
      t1 = (v t).h + (rotr32 (v t).e 6 ^^^ rotr32 (v t).e 11 ^^^ rotr32 (v t).e 25)
        + (((v t).e &&& (v t).f) ^^^ (~~~(v t).e &&& (v t).g)) + sha256K t + w t ∧
      t2 = (rotr32 (v t).a 2 ^^^ rotr32 (v t).a 13 ^^^ rotr32 (v t).a 22)
        + (((v t).a &&& (v t).b) ^^^ ((v t).a &&& (v t).c) ^^^ ((v t).b &&& (v t).c)) ∧
      v (t + 1) = ⟨t1 + t2, (v t).a, (v t).b, (v t).c, (v t).d + t1, (v t).e, (v t).f, (v t).g⟩) ∧
    sha256Compress h block
      = #v[h[0] + (v 64).a, h[1] + (v 64).b, h[2] + (v 64).c, h[3] + (v 64).d, h[4] + (v 64).e, h[5] + (v 64).f,
          h[6] + (v 64).g, h[7] + (v 64).h]) ∧
  sha256Compress #v[0x6A09E667, 0xBB67AE85, 0x3C6EF372, 0xA54FF53A, 0x510E527F, 0x9B05688C, 0x1F83D9AB, 0x5BE0CD19]
      #v[0x61626380, 0, 0, 0, 0, 0, 0, 0, 0, 0, 0, 0, 0, 0, 0, 0x00000018]
    = #v[0xBA7816BF, 0x8F01CFEA, 0x414140DE, 0x5DAE2223, 0xB00361A3, 0x96177A9C, 0xB410FF61, 0xF20015AD] ∧
  sha256Compress (Vector.replicate 8 0) (Vector.replicate 16 0)
    = #v[0x7CA51614, 0x425C3BA8, 0xCE54DD2F, 0xC2020AE7, 0xB6E574D1, 0x98136D0F, 0xAE7E26CC, 0xBF0BE7A6]
end

