-- ==== Sys2Proof/Laws/Codec.lean ====
section
/-! SUPPORT. The small lemmas of the codec's definitions: what `tabulate` holds, and single bits of bytes and words. -/

namespace Sys2Proof.Machine

@[simp] theorem tabulate_getElem {α : Type} (n : Nat) (f : Nat → α) (i : Nat) (h : i < n) : (tabulate n f)[i] = f i := by
  simp [tabulate]

@[simp] theorem tabulate_getD {α : Type} (n : Nat) (f : Nat → α) (i : Nat) (d : α) (h : i < n) :
    (tabulate n f).getD i d = f i := by
  simp [Vector.getD, tabulate, h]

theorem byteBe_getLsbD (n : Nat) (w : Word) (i : Nat) :
    (byteBe n w).getLsbD i = (decide (i < 8) && w.getLsbD (24 - 8 * n + i)) := by
  simp [byteBe]

theorem byteLe_getLsbD (n : Nat) (w : Word) (i : Nat) :
    (byteLe n w).getLsbD i = (decide (i < 8) && w.getLsbD (8 * n + i)) := by
  simp [byteLe]

@[simp] theorem byteBe_zero_loadBe32 (b0 b1 b2 b3 : Byte) : byteBe 0 (loadBe32 b0 b1 b2 b3) = b0 := by
  apply BitVec.eq_of_getLsbD_eq
  intro i hi
  rw [byteBe_getLsbD]
  simp only [loadBe32, BitVec.getLsbD_append, hi, decide_true, Bool.true_and]
  have h1 : ¬ 24 - 8 * 0 + i < 8 := by omega
  have h2 : ¬ 24 - 8 * 0 + i - 8 < 8 := by omega
  have h3 : ¬ 24 - 8 * 0 + i - 8 - 8 < 8 := by omega
  have h4 : 24 - 8 * 0 + i - 8 - 8 - 8 = i := by omega
  simp [h1, h2, h3, h4]

@[simp] theorem byteBe_one_loadBe32 (b0 b1 b2 b3 : Byte) : byteBe 1 (loadBe32 b0 b1 b2 b3) = b1 := by
  apply BitVec.eq_of_getLsbD_eq
  intro i hi
  rw [byteBe_getLsbD]
  simp only [loadBe32, BitVec.getLsbD_append, hi, decide_true, Bool.true_and]
  have h1 : ¬ 24 - 8 * 1 + i < 8 := by omega
  have h2 : ¬ 24 - 8 * 1 + i - 8 < 8 := by omega
  have h4 : 24 - 8 * 1 + i - 8 - 8 = i := by omega
  simp [h1, h2, h4, hi]

@[simp] theorem byteBe_two_loadBe32 (b0 b1 b2 b3 : Byte) : byteBe 2 (loadBe32 b0 b1 b2 b3) = b2 := by
  apply BitVec.eq_of_getLsbD_eq
  intro i hi
  rw [byteBe_getLsbD]
  simp only [loadBe32, BitVec.getLsbD_append, hi, decide_true, Bool.true_and]
  have h1 : ¬ 24 - 8 * 2 + i < 8 := by omega
  have h3 : 24 - 8 * 2 + i - 8 = i := by omega
  simp [h1, h3, hi]

@[simp] theorem byteBe_three_loadBe32 (b0 b1 b2 b3 : Byte) : byteBe 3 (loadBe32 b0 b1 b2 b3) = b3 := by
  apply BitVec.eq_of_getLsbD_eq
  intro i hi
  rw [byteBe_getLsbD]
  simp only [loadBe32, BitVec.getLsbD_append, hi, decide_true, Bool.true_and]
  simp [hi]

end Sys2Proof.Machine
end

