-- ==== Sys2Proof/Laws/State.lean ====
section
/-! SUPPORT. One lemma per field of State per named update, so that no proof unfolds a record update. -/

namespace Sys2Proof.Machine

/-! ### An accepted command's issue (R231) -/

@[simp] theorem State.accept_ie (s : State) (f : Flight) : (s.accept f).ie = s.ie := rfl
@[simp] theorem State.accept_done (s : State) (f : Flight) : (s.accept f).done = false := rfl
@[simp] theorem State.accept_err (s : State) (f : Flight) : (s.accept f).err = s.err := rfl
@[simp] theorem State.accept_errcode (s : State) (f : Flight) : (s.accept f).errcode = s.errcode := rfl
@[simp] theorem State.accept_key (s : State) (f : Flight) : (s.accept f).key = s.key := rfl
@[simp] theorem State.accept_din (s : State) (f : Flight) : (s.accept f).din = s.din := rfl
@[simp] theorem State.accept_dout (s : State) (f : Flight) : (s.accept f).dout = s.dout := rfl
@[simp] theorem State.accept_dig (s : State) (f : Flight) : (s.accept f).dig = s.dig := rfl
@[simp] theorem State.accept_msg (s : State) (f : Flight) : (s.accept f).msg = s.msg := rfl
@[simp] theorem State.accept_sq (s : State) (f : Flight) : (s.accept f).sq = s.sq := rfl
@[simp] theorem State.accept_sqKeyed (s : State) (f : Flight) : (s.accept f).sqKeyed = s.sqKeyed := rfl
@[simp] theorem State.accept_tf (s : State) (f : Flight) : (s.accept f).tf = s.tf := rfl
@[simp] theorem State.accept_tfKeyed (s : State) (f : Flight) : (s.accept f).tfKeyed = s.tfKeyed := rfl
@[simp] theorem State.accept_tfKlen (s : State) (f : Flight) : (s.accept f).tfKlen = s.tfKlen := rfl
@[simp] theorem State.accept_seq (s : State) (f : Flight) : (s.accept f).seq = .busy f := rfl
@[simp] theorem State.accept_rst (s : State) (f : Flight) : (s.accept f).rst = s.rst := rfl
@[simp] theorem State.accept_response (s : State) (f : Flight) : (s.accept f).response = s.response := rfl
@[simp] theorem State.accept_inputs (s : State) (f : Flight) : (s.accept f).inputs = s.inputs := rfl
@[simp] theorem State.accept_busy (s : State) (f : Flight) : (s.accept f).busy = true := rfl

/-! ### The end of a commit (R234) -/

@[simp] theorem State.finish_ie (s : State) : s.finish.ie = s.ie := rfl
@[simp] theorem State.finish_done (s : State) : s.finish.done = true := rfl
@[simp] theorem State.finish_err (s : State) : s.finish.err = s.err := rfl
@[simp] theorem State.finish_errcode (s : State) : s.finish.errcode = s.errcode := rfl
@[simp] theorem State.finish_key (s : State) : s.finish.key = s.key := rfl
@[simp] theorem State.finish_din (s : State) : s.finish.din = s.din := rfl
@[simp] theorem State.finish_dout (s : State) : s.finish.dout = s.dout := rfl
@[simp] theorem State.finish_dig (s : State) : s.finish.dig = s.dig := rfl
@[simp] theorem State.finish_msg (s : State) : s.finish.msg = s.msg := rfl
@[simp] theorem State.finish_sq (s : State) : s.finish.sq = s.sq := rfl
@[simp] theorem State.finish_sqKeyed (s : State) : s.finish.sqKeyed = s.sqKeyed := rfl
@[simp] theorem State.finish_tf (s : State) : s.finish.tf = s.tf := rfl
@[simp] theorem State.finish_tfKeyed (s : State) : s.finish.tfKeyed = s.tfKeyed := rfl
@[simp] theorem State.finish_tfKlen (s : State) : s.finish.tfKlen = s.tfKlen := rfl
@[simp] theorem State.finish_seq (s : State) : s.finish.seq = .idle := rfl
@[simp] theorem State.finish_rst (s : State) : s.finish.rst = s.rst := rfl
@[simp] theorem State.finish_response (s : State) : s.finish.response = s.response := rfl
@[simp] theorem State.finish_inputs (s : State) : s.finish.inputs = s.inputs := rfl
@[simp] theorem State.finish_busy (s : State) : s.finish.busy = false := rfl

/-! ### A rejection (R266) -/

@[simp] theorem State.cmdError_ie (s : State) (code : ErrCode) : (s.cmdError code).ie = s.ie := rfl
@[simp] theorem State.cmdError_done (s : State) (code : ErrCode) : (s.cmdError code).done = s.done := rfl
@[simp] theorem State.cmdError_err (s : State) (code : ErrCode) : (s.cmdError code).err = true := rfl
@[simp] theorem State.cmdError_errcode (s : State) (code : ErrCode) : (s.cmdError code).errcode = if s.err then s.errcode else code := rfl
@[simp] theorem State.cmdError_key (s : State) (code : ErrCode) : (s.cmdError code).key = s.key := rfl
@[simp] theorem State.cmdError_din (s : State) (code : ErrCode) : (s.cmdError code).din = s.din := rfl
@[simp] theorem State.cmdError_dout (s : State) (code : ErrCode) : (s.cmdError code).dout = s.dout := rfl
@[simp] theorem State.cmdError_dig (s : State) (code : ErrCode) : (s.cmdError code).dig = s.dig := rfl
@[simp] theorem State.cmdError_msg (s : State) (code : ErrCode) : (s.cmdError code).msg = s.msg := rfl
@[simp] theorem State.cmdError_sq (s : State) (code : ErrCode) : (s.cmdError code).sq = s.sq := rfl
@[simp] theorem State.cmdError_sqKeyed (s : State) (code : ErrCode) : (s.cmdError code).sqKeyed = s.sqKeyed := rfl
@[simp] theorem State.cmdError_tf (s : State) (code : ErrCode) : (s.cmdError code).tf = s.tf := rfl
@[simp] theorem State.cmdError_tfKeyed (s : State) (code : ErrCode) : (s.cmdError code).tfKeyed = s.tfKeyed := rfl
@[simp] theorem State.cmdError_tfKlen (s : State) (code : ErrCode) : (s.cmdError code).tfKlen = s.tfKlen := rfl
@[simp] theorem State.cmdError_seq (s : State) (code : ErrCode) : (s.cmdError code).seq = s.seq := rfl
@[simp] theorem State.cmdError_rst (s : State) (code : ErrCode) : (s.cmdError code).rst = s.rst := rfl
@[simp] theorem State.cmdError_response (s : State) (code : ErrCode) : (s.cmdError code).response = s.response := rfl
@[simp] theorem State.cmdError_inputs (s : State) (code : ErrCode) : (s.cmdError code).inputs = s.inputs := rfl
@[simp] theorem State.cmdError_busy (s : State) (code : ErrCode) : (s.cmdError code).busy = s.busy := rfl

/-! ### A STATUS write (R69) -/

@[simp] theorem State.statusW1C_ie (s : State) (v : Word) : (s.statusW1C v).ie = s.ie := rfl
@[simp] theorem State.statusW1C_done (s : State) (v : Word) : (s.statusW1C v).done = (s.done && !v.getLsbD 1) := rfl
@[simp] theorem State.statusW1C_err (s : State) (v : Word) : (s.statusW1C v).err = (s.err && !v.getLsbD 2) := rfl
@[simp] theorem State.statusW1C_errcode (s : State) (v : Word) : (s.statusW1C v).errcode = if v.getLsbD 2 then .none else s.errcode := rfl
@[simp] theorem State.statusW1C_key (s : State) (v : Word) : (s.statusW1C v).key = s.key := rfl
@[simp] theorem State.statusW1C_din (s : State) (v : Word) : (s.statusW1C v).din = s.din := rfl
@[simp] theorem State.statusW1C_dout (s : State) (v : Word) : (s.statusW1C v).dout = s.dout := rfl
@[simp] theorem State.statusW1C_dig (s : State) (v : Word) : (s.statusW1C v).dig = s.dig := rfl
@[simp] theorem State.statusW1C_msg (s : State) (v : Word) : (s.statusW1C v).msg = s.msg := rfl
@[simp] theorem State.statusW1C_sq (s : State) (v : Word) : (s.statusW1C v).sq = s.sq := rfl
@[simp] theorem State.statusW1C_sqKeyed (s : State) (v : Word) : (s.statusW1C v).sqKeyed = s.sqKeyed := rfl
@[simp] theorem State.statusW1C_tf (s : State) (v : Word) : (s.statusW1C v).tf = s.tf := rfl
@[simp] theorem State.statusW1C_tfKeyed (s : State) (v : Word) : (s.statusW1C v).tfKeyed = s.tfKeyed := rfl
@[simp] theorem State.statusW1C_tfKlen (s : State) (v : Word) : (s.statusW1C v).tfKlen = s.tfKlen := rfl
@[simp] theorem State.statusW1C_seq (s : State) (v : Word) : (s.statusW1C v).seq = s.seq := rfl
@[simp] theorem State.statusW1C_rst (s : State) (v : Word) : (s.statusW1C v).rst = s.rst := rfl
@[simp] theorem State.statusW1C_response (s : State) (v : Word) : (s.statusW1C v).response = s.response := rfl
@[simp] theorem State.statusW1C_inputs (s : State) (v : Word) : (s.statusW1C v).inputs = s.inputs := rfl
@[simp] theorem State.statusW1C_busy (s : State) (v : Word) : (s.statusW1C v).busy = s.busy := rfl

/-! ### DOUT (R25) -/

@[simp] theorem State.setDout_ie (s : State) (d : Vector Word 4) : (s.setDout d).ie = s.ie := rfl
@[simp] theorem State.setDout_done (s : State) (d : Vector Word 4) : (s.setDout d).done = s.done := rfl
@[simp] theorem State.setDout_err (s : State) (d : Vector Word 4) : (s.setDout d).err = s.err := rfl
@[simp] theorem State.setDout_errcode (s : State) (d : Vector Word 4) : (s.setDout d).errcode = s.errcode := rfl
@[simp] theorem State.setDout_key (s : State) (d : Vector Word 4) : (s.setDout d).key = s.key := rfl
@[simp] theorem State.setDout_din (s : State) (d : Vector Word 4) : (s.setDout d).din = s.din := rfl
@[simp] theorem State.setDout_dout (s : State) (d : Vector Word 4) : (s.setDout d).dout = d := rfl
@[simp] theorem State.setDout_dig (s : State) (d : Vector Word 4) : (s.setDout d).dig = s.dig := rfl
@[simp] theorem State.setDout_msg (s : State) (d : Vector Word 4) : (s.setDout d).msg = s.msg := rfl
@[simp] theorem State.setDout_sq (s : State) (d : Vector Word 4) : (s.setDout d).sq = s.sq := rfl
@[simp] theorem State.setDout_sqKeyed (s : State) (d : Vector Word 4) : (s.setDout d).sqKeyed = s.sqKeyed := rfl
@[simp] theorem State.setDout_tf (s : State) (d : Vector Word 4) : (s.setDout d).tf = s.tf := rfl
@[simp] theorem State.setDout_tfKeyed (s : State) (d : Vector Word 4) : (s.setDout d).tfKeyed = s.tfKeyed := rfl
@[simp] theorem State.setDout_tfKlen (s : State) (d : Vector Word 4) : (s.setDout d).tfKlen = s.tfKlen := rfl
@[simp] theorem State.setDout_seq (s : State) (d : Vector Word 4) : (s.setDout d).seq = s.seq := rfl
@[simp] theorem State.setDout_rst (s : State) (d : Vector Word 4) : (s.setDout d).rst = s.rst := rfl
@[simp] theorem State.setDout_response (s : State) (d : Vector Word 4) : (s.setDout d).response = s.response := rfl
@[simp] theorem State.setDout_inputs (s : State) (d : Vector Word 4) : (s.setDout d).inputs = s.inputs := rfl
@[simp] theorem State.setDout_busy (s : State) (d : Vector Word 4) : (s.setDout d).busy = s.busy := rfl

/-! ### DIG0-DIG7 (R219) -/

@[simp] theorem State.setDigest8_ie (s : State) (d : Vector Word 8) : (s.setDigest8 d).ie = s.ie := rfl
@[simp] theorem State.setDigest8_done (s : State) (d : Vector Word 8) : (s.setDigest8 d).done = s.done := rfl
@[simp] theorem State.setDigest8_err (s : State) (d : Vector Word 8) : (s.setDigest8 d).err = s.err := rfl
@[simp] theorem State.setDigest8_errcode (s : State) (d : Vector Word 8) : (s.setDigest8 d).errcode = s.errcode := rfl
@[simp] theorem State.setDigest8_key (s : State) (d : Vector Word 8) : (s.setDigest8 d).key = s.key := rfl
@[simp] theorem State.setDigest8_din (s : State) (d : Vector Word 8) : (s.setDigest8 d).din = s.din := rfl
@[simp] theorem State.setDigest8_dout (s : State) (d : Vector Word 8) : (s.setDigest8 d).dout = s.dout := rfl
@[simp] theorem State.setDigest8_dig (s : State) (d : Vector Word 8) : (s.setDigest8 d).dig = d := rfl
@[simp] theorem State.setDigest8_msg (s : State) (d : Vector Word 8) : (s.setDigest8 d).msg = s.msg := rfl
@[simp] theorem State.setDigest8_sq (s : State) (d : Vector Word 8) : (s.setDigest8 d).sq = s.sq := rfl
@[simp] theorem State.setDigest8_sqKeyed (s : State) (d : Vector Word 8) : (s.setDigest8 d).sqKeyed = s.sqKeyed := rfl
@[simp] theorem State.setDigest8_tf (s : State) (d : Vector Word 8) : (s.setDigest8 d).tf = s.tf := rfl
@[simp] theorem State.setDigest8_tfKeyed (s : State) (d : Vector Word 8) : (s.setDigest8 d).tfKeyed = s.tfKeyed := rfl
@[simp] theorem State.setDigest8_tfKlen (s : State) (d : Vector Word 8) : (s.setDigest8 d).tfKlen = s.tfKlen := rfl
@[simp] theorem State.setDigest8_seq (s : State) (d : Vector Word 8) : (s.setDigest8 d).seq = s.seq := rfl
@[simp] theorem State.setDigest8_rst (s : State) (d : Vector Word 8) : (s.setDigest8 d).rst = s.rst := rfl
@[simp] theorem State.setDigest8_response (s : State) (d : Vector Word 8) : (s.setDigest8 d).response = s.response := rfl
@[simp] theorem State.setDigest8_inputs (s : State) (d : Vector Word 8) : (s.setDigest8 d).inputs = s.inputs := rfl
@[simp] theorem State.setDigest8_busy (s : State) (d : Vector Word 8) : (s.setDigest8 d).busy = s.busy := rfl

/-! ### DIG0-DIG4 (R214) -/

@[simp] theorem State.setDigest5_ie (s : State) (d : Vector Word 5) : (s.setDigest5 d).ie = s.ie := rfl
@[simp] theorem State.setDigest5_done (s : State) (d : Vector Word 5) : (s.setDigest5 d).done = s.done := rfl
@[simp] theorem State.setDigest5_err (s : State) (d : Vector Word 5) : (s.setDigest5 d).err = s.err := rfl
@[simp] theorem State.setDigest5_errcode (s : State) (d : Vector Word 5) : (s.setDigest5 d).errcode = s.errcode := rfl
@[simp] theorem State.setDigest5_key (s : State) (d : Vector Word 5) : (s.setDigest5 d).key = s.key := rfl
@[simp] theorem State.setDigest5_din (s : State) (d : Vector Word 5) : (s.setDigest5 d).din = s.din := rfl
@[simp] theorem State.setDigest5_dout (s : State) (d : Vector Word 5) : (s.setDigest5 d).dout = s.dout := rfl
@[simp] theorem State.setDigest5_dig (s : State) (d : Vector Word 5) : (s.setDigest5 d).dig = #v[d[0], d[1], d[2], d[3], d[4], s.dig[5], s.dig[6], s.dig[7]] := rfl
@[simp] theorem State.setDigest5_msg (s : State) (d : Vector Word 5) : (s.setDigest5 d).msg = s.msg := rfl
@[simp] theorem State.setDigest5_sq (s : State) (d : Vector Word 5) : (s.setDigest5 d).sq = s.sq := rfl
@[simp] theorem State.setDigest5_sqKeyed (s : State) (d : Vector Word 5) : (s.setDigest5 d).sqKeyed = s.sqKeyed := rfl
@[simp] theorem State.setDigest5_tf (s : State) (d : Vector Word 5) : (s.setDigest5 d).tf = s.tf := rfl
@[simp] theorem State.setDigest5_tfKeyed (s : State) (d : Vector Word 5) : (s.setDigest5 d).tfKeyed = s.tfKeyed := rfl
@[simp] theorem State.setDigest5_tfKlen (s : State) (d : Vector Word 5) : (s.setDigest5 d).tfKlen = s.tfKlen := rfl
@[simp] theorem State.setDigest5_seq (s : State) (d : Vector Word 5) : (s.setDigest5 d).seq = s.seq := rfl
@[simp] theorem State.setDigest5_rst (s : State) (d : Vector Word 5) : (s.setDigest5 d).rst = s.rst := rfl
@[simp] theorem State.setDigest5_response (s : State) (d : Vector Word 5) : (s.setDigest5 d).response = s.response := rfl
@[simp] theorem State.setDigest5_inputs (s : State) (d : Vector Word 5) : (s.setDigest5 d).inputs = s.inputs := rfl
@[simp] theorem State.setDigest5_busy (s : State) (d : Vector Word 5) : (s.setDigest5 d).busy = s.busy := rfl

/-! ### SQ_KEY's result (R150) -/

@[simp] theorem State.loadSquare_ie (s : State) (a : SquareSchedule) : (s.loadSquare a).ie = s.ie := rfl
@[simp] theorem State.loadSquare_done (s : State) (a : SquareSchedule) : (s.loadSquare a).done = s.done := rfl
@[simp] theorem State.loadSquare_err (s : State) (a : SquareSchedule) : (s.loadSquare a).err = s.err := rfl
@[simp] theorem State.loadSquare_errcode (s : State) (a : SquareSchedule) : (s.loadSquare a).errcode = s.errcode := rfl
@[simp] theorem State.loadSquare_key (s : State) (a : SquareSchedule) : (s.loadSquare a).key = s.key := rfl
@[simp] theorem State.loadSquare_din (s : State) (a : SquareSchedule) : (s.loadSquare a).din = s.din := rfl
@[simp] theorem State.loadSquare_dout (s : State) (a : SquareSchedule) : (s.loadSquare a).dout = s.dout := rfl
@[simp] theorem State.loadSquare_dig (s : State) (a : SquareSchedule) : (s.loadSquare a).dig = s.dig := rfl
@[simp] theorem State.loadSquare_msg (s : State) (a : SquareSchedule) : (s.loadSquare a).msg = s.msg := rfl
@[simp] theorem State.loadSquare_sq (s : State) (a : SquareSchedule) : (s.loadSquare a).sq = a := rfl
@[simp] theorem State.loadSquare_sqKeyed (s : State) (a : SquareSchedule) : (s.loadSquare a).sqKeyed = true := rfl
@[simp] theorem State.loadSquare_tf (s : State) (a : SquareSchedule) : (s.loadSquare a).tf = s.tf := rfl
@[simp] theorem State.loadSquare_tfKeyed (s : State) (a : SquareSchedule) : (s.loadSquare a).tfKeyed = s.tfKeyed := rfl
@[simp] theorem State.loadSquare_tfKlen (s : State) (a : SquareSchedule) : (s.loadSquare a).tfKlen = s.tfKlen := rfl
@[simp] theorem State.loadSquare_seq (s : State) (a : SquareSchedule) : (s.loadSquare a).seq = s.seq := rfl
@[simp] theorem State.loadSquare_rst (s : State) (a : SquareSchedule) : (s.loadSquare a).rst = s.rst := rfl
@[simp] theorem State.loadSquare_response (s : State) (a : SquareSchedule) : (s.loadSquare a).response = s.response := rfl
@[simp] theorem State.loadSquare_inputs (s : State) (a : SquareSchedule) : (s.loadSquare a).inputs = s.inputs := rfl
@[simp] theorem State.loadSquare_busy (s : State) (a : SquareSchedule) : (s.loadSquare a).busy = s.busy := rfl

/-! ### SQ_CLEAR's result (R153) -/

@[simp] theorem State.clearSquare_ie (s : State) : s.clearSquare.ie = s.ie := rfl
@[simp] theorem State.clearSquare_done (s : State) : s.clearSquare.done = s.done := rfl
@[simp] theorem State.clearSquare_err (s : State) : s.clearSquare.err = s.err := rfl
@[simp] theorem State.clearSquare_errcode (s : State) : s.clearSquare.errcode = s.errcode := rfl
@[simp] theorem State.clearSquare_key (s : State) : s.clearSquare.key = s.key := rfl
@[simp] theorem State.clearSquare_din (s : State) : s.clearSquare.din = s.din := rfl
@[simp] theorem State.clearSquare_dout (s : State) : s.clearSquare.dout = s.dout := rfl
@[simp] theorem State.clearSquare_dig (s : State) : s.clearSquare.dig = s.dig := rfl
@[simp] theorem State.clearSquare_msg (s : State) : s.clearSquare.msg = s.msg := rfl
@[simp] theorem State.clearSquare_sq (s : State) : s.clearSquare.sq = .zero := rfl
@[simp] theorem State.clearSquare_sqKeyed (s : State) : s.clearSquare.sqKeyed = false := rfl
@[simp] theorem State.clearSquare_tf (s : State) : s.clearSquare.tf = s.tf := rfl
@[simp] theorem State.clearSquare_tfKeyed (s : State) : s.clearSquare.tfKeyed = s.tfKeyed := rfl
@[simp] theorem State.clearSquare_tfKlen (s : State) : s.clearSquare.tfKlen = s.tfKlen := rfl
@[simp] theorem State.clearSquare_seq (s : State) : s.clearSquare.seq = s.seq := rfl
@[simp] theorem State.clearSquare_rst (s : State) : s.clearSquare.rst = s.rst := rfl
@[simp] theorem State.clearSquare_response (s : State) : s.clearSquare.response = s.response := rfl
@[simp] theorem State.clearSquare_inputs (s : State) : s.clearSquare.inputs = s.inputs := rfl
@[simp] theorem State.clearSquare_busy (s : State) : s.clearSquare.busy = s.busy := rfl

/-! ### TF_KEY's result (R190) -/

@[simp] theorem State.loadTwofish_ie (s : State) (a : TwofishSchedule) (klen : BitVec 2) : (s.loadTwofish a klen).ie = s.ie := rfl
@[simp] theorem State.loadTwofish_done (s : State) (a : TwofishSchedule) (klen : BitVec 2) : (s.loadTwofish a klen).done = s.done := rfl
@[simp] theorem State.loadTwofish_err (s : State) (a : TwofishSchedule) (klen : BitVec 2) : (s.loadTwofish a klen).err = s.err := rfl
@[simp] theorem State.loadTwofish_errcode (s : State) (a : TwofishSchedule) (klen : BitVec 2) : (s.loadTwofish a klen).errcode = s.errcode := rfl
@[simp] theorem State.loadTwofish_key (s : State) (a : TwofishSchedule) (klen : BitVec 2) : (s.loadTwofish a klen).key = s.key := rfl
@[simp] theorem State.loadTwofish_din (s : State) (a : TwofishSchedule) (klen : BitVec 2) : (s.loadTwofish a klen).din = s.din := rfl
@[simp] theorem State.loadTwofish_dout (s : State) (a : TwofishSchedule) (klen : BitVec 2) : (s.loadTwofish a klen).dout = s.dout := rfl
@[simp] theorem State.loadTwofish_dig (s : State) (a : TwofishSchedule) (klen : BitVec 2) : (s.loadTwofish a klen).dig = s.dig := rfl
@[simp] theorem State.loadTwofish_msg (s : State) (a : TwofishSchedule) (klen : BitVec 2) : (s.loadTwofish a klen).msg = s.msg := rfl
@[simp] theorem State.loadTwofish_sq (s : State) (a : TwofishSchedule) (klen : BitVec 2) : (s.loadTwofish a klen).sq = s.sq := rfl
@[simp] theorem State.loadTwofish_sqKeyed (s : State) (a : TwofishSchedule) (klen : BitVec 2) : (s.loadTwofish a klen).sqKeyed = s.sqKeyed := rfl
@[simp] theorem State.loadTwofish_tf (s : State) (a : TwofishSchedule) (klen : BitVec 2) : (s.loadTwofish a klen).tf = a := rfl
@[simp] theorem State.loadTwofish_tfKeyed (s : State) (a : TwofishSchedule) (klen : BitVec 2) : (s.loadTwofish a klen).tfKeyed = true := rfl
@[simp] theorem State.loadTwofish_tfKlen (s : State) (a : TwofishSchedule) (klen : BitVec 2) : (s.loadTwofish a klen).tfKlen = klen := rfl
@[simp] theorem State.loadTwofish_seq (s : State) (a : TwofishSchedule) (klen : BitVec 2) : (s.loadTwofish a klen).seq = s.seq := rfl
@[simp] theorem State.loadTwofish_rst (s : State) (a : TwofishSchedule) (klen : BitVec 2) : (s.loadTwofish a klen).rst = s.rst := rfl
@[simp] theorem State.loadTwofish_response (s : State) (a : TwofishSchedule) (klen : BitVec 2) : (s.loadTwofish a klen).response = s.response := rfl
@[simp] theorem State.loadTwofish_inputs (s : State) (a : TwofishSchedule) (klen : BitVec 2) : (s.loadTwofish a klen).inputs = s.inputs := rfl
@[simp] theorem State.loadTwofish_busy (s : State) (a : TwofishSchedule) (klen : BitVec 2) : (s.loadTwofish a klen).busy = s.busy := rfl

/-! ### TF_CLEAR's result (R193) -/

@[simp] theorem State.clearTwofish_ie (s : State) : s.clearTwofish.ie = s.ie := rfl
@[simp] theorem State.clearTwofish_done (s : State) : s.clearTwofish.done = s.done := rfl
@[simp] theorem State.clearTwofish_err (s : State) : s.clearTwofish.err = s.err := rfl
@[simp] theorem State.clearTwofish_errcode (s : State) : s.clearTwofish.errcode = s.errcode := rfl
@[simp] theorem State.clearTwofish_key (s : State) : s.clearTwofish.key = s.key := rfl
@[simp] theorem State.clearTwofish_din (s : State) : s.clearTwofish.din = s.din := rfl
@[simp] theorem State.clearTwofish_dout (s : State) : s.clearTwofish.dout = s.dout := rfl
@[simp] theorem State.clearTwofish_dig (s : State) : s.clearTwofish.dig = s.dig := rfl
@[simp] theorem State.clearTwofish_msg (s : State) : s.clearTwofish.msg = s.msg := rfl
@[simp] theorem State.clearTwofish_sq (s : State) : s.clearTwofish.sq = s.sq := rfl
@[simp] theorem State.clearTwofish_sqKeyed (s : State) : s.clearTwofish.sqKeyed = s.sqKeyed := rfl
@[simp] theorem State.clearTwofish_tf (s : State) : s.clearTwofish.tf = .zero := rfl
@[simp] theorem State.clearTwofish_tfKeyed (s : State) : s.clearTwofish.tfKeyed = false := rfl
@[simp] theorem State.clearTwofish_tfKlen (s : State) : s.clearTwofish.tfKlen = 0b00 := rfl
@[simp] theorem State.clearTwofish_seq (s : State) : s.clearTwofish.seq = s.seq := rfl
@[simp] theorem State.clearTwofish_rst (s : State) : s.clearTwofish.rst = s.rst := rfl
@[simp] theorem State.clearTwofish_response (s : State) : s.clearTwofish.response = s.response := rfl
@[simp] theorem State.clearTwofish_inputs (s : State) : s.clearTwofish.inputs = s.inputs := rfl
@[simp] theorem State.clearTwofish_busy (s : State) : s.clearTwofish.busy = s.busy := rfl

/-! ### CLEAR_ALL on the data registers (R233) -/

@[simp] theorem State.clearData_ie (s : State) : s.clearData.ie = s.ie := rfl
@[simp] theorem State.clearData_done (s : State) : s.clearData.done = s.done := rfl
@[simp] theorem State.clearData_err (s : State) : s.clearData.err = s.err := rfl
@[simp] theorem State.clearData_errcode (s : State) : s.clearData.errcode = s.errcode := rfl
@[simp] theorem State.clearData_key (s : State) : s.clearData.key = Vector.replicate 8 0 := rfl
@[simp] theorem State.clearData_din (s : State) : s.clearData.din = Vector.replicate 4 0 := rfl
@[simp] theorem State.clearData_dout (s : State) : s.clearData.dout = Vector.replicate 4 0 := rfl
@[simp] theorem State.clearData_dig (s : State) : s.clearData.dig = Vector.replicate 8 0 := rfl
@[simp] theorem State.clearData_msg (s : State) : s.clearData.msg = Vector.replicate 16 0 := rfl
@[simp] theorem State.clearData_sq (s : State) : s.clearData.sq = s.sq := rfl
@[simp] theorem State.clearData_sqKeyed (s : State) : s.clearData.sqKeyed = s.sqKeyed := rfl
@[simp] theorem State.clearData_tf (s : State) : s.clearData.tf = s.tf := rfl
@[simp] theorem State.clearData_tfKeyed (s : State) : s.clearData.tfKeyed = s.tfKeyed := rfl
@[simp] theorem State.clearData_tfKlen (s : State) : s.clearData.tfKlen = s.tfKlen := rfl
@[simp] theorem State.clearData_seq (s : State) : s.clearData.seq = s.seq := rfl
@[simp] theorem State.clearData_rst (s : State) : s.clearData.rst = s.rst := rfl
@[simp] theorem State.clearData_response (s : State) : s.clearData.response = s.response := rfl
@[simp] theorem State.clearData_inputs (s : State) : s.clearData.inputs = s.inputs := rfl
@[simp] theorem State.clearData_busy (s : State) : s.clearData.busy = s.busy := rfl

/-! ### RST released (R290) -/

@[simp] theorem State.releaseReset_ie (s : State) : s.releaseReset.ie = s.ie := rfl
@[simp] theorem State.releaseReset_done (s : State) : s.releaseReset.done = s.done := rfl
@[simp] theorem State.releaseReset_err (s : State) : s.releaseReset.err = s.err := rfl
@[simp] theorem State.releaseReset_errcode (s : State) : s.releaseReset.errcode = s.errcode := rfl
@[simp] theorem State.releaseReset_key (s : State) : s.releaseReset.key = s.key := rfl
@[simp] theorem State.releaseReset_din (s : State) : s.releaseReset.din = s.din := rfl
@[simp] theorem State.releaseReset_dout (s : State) : s.releaseReset.dout = s.dout := rfl
@[simp] theorem State.releaseReset_dig (s : State) : s.releaseReset.dig = s.dig := rfl
@[simp] theorem State.releaseReset_msg (s : State) : s.releaseReset.msg = s.msg := rfl
@[simp] theorem State.releaseReset_sq (s : State) : s.releaseReset.sq = s.sq := rfl
@[simp] theorem State.releaseReset_sqKeyed (s : State) : s.releaseReset.sqKeyed = s.sqKeyed := rfl
@[simp] theorem State.releaseReset_tf (s : State) : s.releaseReset.tf = s.tf := rfl
@[simp] theorem State.releaseReset_tfKeyed (s : State) : s.releaseReset.tfKeyed = s.tfKeyed := rfl
@[simp] theorem State.releaseReset_tfKlen (s : State) : s.releaseReset.tfKlen = s.tfKlen := rfl
@[simp] theorem State.releaseReset_seq (s : State) : s.releaseReset.seq = s.seq := rfl
@[simp] theorem State.releaseReset_rst (s : State) : s.releaseReset.rst = false := rfl
@[simp] theorem State.releaseReset_response (s : State) : s.releaseReset.response = s.response := rfl
@[simp] theorem State.releaseReset_inputs (s : State) : s.releaseReset.inputs = s.inputs := rfl
@[simp] theorem State.releaseReset_busy (s : State) : s.releaseReset.busy = s.busy := rfl

/-! ### The answer on the bus -/

@[simp] theorem State.respond_ie (s : State) (r : Response) : (s.respond r).ie = s.ie := rfl
@[simp] theorem State.respond_done (s : State) (r : Response) : (s.respond r).done = s.done := rfl
@[simp] theorem State.respond_err (s : State) (r : Response) : (s.respond r).err = s.err := rfl
@[simp] theorem State.respond_errcode (s : State) (r : Response) : (s.respond r).errcode = s.errcode := rfl
@[simp] theorem State.respond_key (s : State) (r : Response) : (s.respond r).key = s.key := rfl
@[simp] theorem State.respond_din (s : State) (r : Response) : (s.respond r).din = s.din := rfl
@[simp] theorem State.respond_dout (s : State) (r : Response) : (s.respond r).dout = s.dout := rfl
@[simp] theorem State.respond_dig (s : State) (r : Response) : (s.respond r).dig = s.dig := rfl
@[simp] theorem State.respond_msg (s : State) (r : Response) : (s.respond r).msg = s.msg := rfl
@[simp] theorem State.respond_sq (s : State) (r : Response) : (s.respond r).sq = s.sq := rfl
@[simp] theorem State.respond_sqKeyed (s : State) (r : Response) : (s.respond r).sqKeyed = s.sqKeyed := rfl
@[simp] theorem State.respond_tf (s : State) (r : Response) : (s.respond r).tf = s.tf := rfl
@[simp] theorem State.respond_tfKeyed (s : State) (r : Response) : (s.respond r).tfKeyed = s.tfKeyed := rfl
@[simp] theorem State.respond_tfKlen (s : State) (r : Response) : (s.respond r).tfKlen = s.tfKlen := rfl
@[simp] theorem State.respond_seq (s : State) (r : Response) : (s.respond r).seq = s.seq := rfl
@[simp] theorem State.respond_rst (s : State) (r : Response) : (s.respond r).rst = s.rst := rfl
@[simp] theorem State.respond_response (s : State) (r : Response) : (s.respond r).response = r := rfl
@[simp] theorem State.respond_inputs (s : State) (r : Response) : (s.respond r).inputs = s.inputs := rfl
@[simp] theorem State.respond_busy (s : State) (r : Response) : (s.respond r).busy = s.busy := rfl

/-! ### RST asserted (R290) -/

@[simp] theorem State.assertReset_ie (s : State) : s.assertReset.ie = State.reset.ie := rfl
@[simp] theorem State.assertReset_done (s : State) : s.assertReset.done = State.reset.done := rfl
@[simp] theorem State.assertReset_err (s : State) : s.assertReset.err = State.reset.err := rfl
@[simp] theorem State.assertReset_errcode (s : State) : s.assertReset.errcode = State.reset.errcode := rfl
@[simp] theorem State.assertReset_key (s : State) : s.assertReset.key = State.reset.key := rfl
@[simp] theorem State.assertReset_din (s : State) : s.assertReset.din = State.reset.din := rfl
@[simp] theorem State.assertReset_dout (s : State) : s.assertReset.dout = State.reset.dout := rfl
@[simp] theorem State.assertReset_dig (s : State) : s.assertReset.dig = State.reset.dig := rfl
@[simp] theorem State.assertReset_msg (s : State) : s.assertReset.msg = State.reset.msg := rfl
@[simp] theorem State.assertReset_sq (s : State) : s.assertReset.sq = State.reset.sq := rfl
@[simp] theorem State.assertReset_sqKeyed (s : State) : s.assertReset.sqKeyed = State.reset.sqKeyed := rfl
@[simp] theorem State.assertReset_tf (s : State) : s.assertReset.tf = State.reset.tf := rfl
@[simp] theorem State.assertReset_tfKeyed (s : State) : s.assertReset.tfKeyed = State.reset.tfKeyed := rfl
@[simp] theorem State.assertReset_tfKlen (s : State) : s.assertReset.tfKlen = State.reset.tfKlen := rfl
@[simp] theorem State.assertReset_seq (s : State) : s.assertReset.seq = State.reset.seq := rfl
@[simp] theorem State.assertReset_rst (s : State) : s.assertReset.rst = true := rfl
@[simp] theorem State.assertReset_response (s : State) : s.assertReset.response = State.reset.response := rfl
@[simp] theorem State.assertReset_inputs (s : State) : s.assertReset.inputs = s.inputs := rfl
@[simp] theorem State.assertReset_busy (s : State) : s.assertReset.busy = false := rfl

/-! ### The reset state (R48) -/

@[simp] theorem State.reset_ie : State.reset.ie = false := rfl
@[simp] theorem State.reset_done : State.reset.done = false := rfl
@[simp] theorem State.reset_err : State.reset.err = false := rfl
@[simp] theorem State.reset_errcode : State.reset.errcode = .none := rfl
@[simp] theorem State.reset_key : State.reset.key = Vector.replicate 8 0 := rfl
@[simp] theorem State.reset_din : State.reset.din = Vector.replicate 4 0 := rfl
@[simp] theorem State.reset_dout : State.reset.dout = Vector.replicate 4 0 := rfl
@[simp] theorem State.reset_dig : State.reset.dig = Vector.replicate 8 0 := rfl
@[simp] theorem State.reset_msg : State.reset.msg = Vector.replicate 16 0 := rfl
@[simp] theorem State.reset_sq : State.reset.sq = .zero := rfl
@[simp] theorem State.reset_sqKeyed : State.reset.sqKeyed = false := rfl
@[simp] theorem State.reset_tf : State.reset.tf = .zero := rfl
@[simp] theorem State.reset_tfKeyed : State.reset.tfKeyed = false := rfl
@[simp] theorem State.reset_tfKlen : State.reset.tfKlen = 0b00 := rfl
@[simp] theorem State.reset_seq : State.reset.seq = .idle := rfl
@[simp] theorem State.reset_rst : State.reset.rst = false := rfl
@[simp] theorem State.reset_response : State.reset.response = .none := rfl
@[simp] theorem State.reset_inputs : State.reset.inputs = [] := rfl

end Sys2Proof.Machine
end

