-- ==== Sys2Proof/Laws/Events.lean ====
section
/-! SUPPORT. What each shared operation can do, said once: if it answers `next t`, then one of these cases holds. -/

namespace Sys2Proof.Machine

/-- What a commit writes besides SEQ and DONE (the table of R234). -/
def commitPart (f : Flight) (s : State) : State :=
  match f with
  | .nop => s
  | .sqKey k => s.loadSquare (squareSchedule k)
  | .sqEnc d => s.setDout (squareEncrypt s.sq d)
  | .sqDec d => s.setDout (squareDecrypt s.sq d)
  | .sqClear => s.clearSquare
  | .tfKey k => s.loadTwofish (twofishSchedule k) (twofishKlen k)
  | .tfEnc d => s.setDout (twofishEncrypt s.tf d)
  | .tfDec d => s.setDout (twofishDecrypt s.tf d)
  | .tfClear => s.clearTwofish
  | .sha1Comp h m => s.setDigest5 (sha1Compress h m)
  | .sha256Comp h m => s.setDigest8 (sha256Compress h m)
  | .clearAll => s.clearSquare.clearTwofish.clearData

/-- The KLEN of the snapshot is the KLEN the snapshot was taken for. -/
theorem snapTwofishKey_klen {klen : BitVec 2} {s : State} {key : TwofishKey} (h : snapTwofishKey klen s = some key) :
    twofishKlen key = klen := by
  unfold snapTwofishKey at h
  split at h
  · cases h; simp_all [twofishKlen]
  · split at h
    · cases h; simp_all [twofishKlen]
    · split at h
      · cases h; simp_all [twofishKlen]
      · cases h

/-- What a command's meaning can do (R9): accept it from IDLE, reject it, or commit it when it is in flight. -/
theorem exec_cases {i : Instr} {s t : State} (h : exec i s = .next t) :
    (s.seq = .idle ∧ ¬ Unkeyed i s ∧ ∃ f, f.instr = i ∧ t = s.accept f) ∨
    (∃ code, code ≠ .none ∧ t = s.cmdError code) ∨
    (∃ f, s.seq = .busy f ∧ f.instr = i ∧ t = (commitPart f s).finish) := by
  cases i with
  | tfKey klen =>
    simp only [exec, execTfKey] at h
    split at h
    · split at h
      · rename_i hseq _ key hk
        cases h
        exact .inl ⟨hseq, id, .tfKey key, by simp [Flight.instr, snapTwofishKey_klen hk], rfl⟩
      · cases h; exact .inr (.inl ⟨.badKlen, by simp, rfl⟩)
    · split at h
      · rename_i key hseq hk
        cases h
        exact .inr (.inr ⟨.tfKey key, hseq, by simp [Flight.instr, hk], by subst hk; rfl⟩)
      · cases h; exact .inr (.inl ⟨.cmdBusy, by simp, rfl⟩)
    · cases h; exact .inr (.inl ⟨.cmdBusy, by simp, rfl⟩)
  | sqEnc | sqDec | tfEnc | tfDec =>
    simp only [exec, execSqEnc, execSqDec, execTfEnc, execTfDec] at h
    split at h
    · split at h
      · cases h; exact .inl ⟨‹_›, by simp [Unkeyed, *], _, rfl, rfl⟩
      · cases h; exact .inr (.inl ⟨.notKeyed, by simp, rfl⟩)
    · cases h; exact .inr (.inr ⟨_, ‹_›, rfl, rfl⟩)
    · cases h; exact .inr (.inl ⟨.cmdBusy, by simp, rfl⟩)
  | nop | sqKey | sqClear | tfClear | sha1Comp | sha256Comp | clearAll =>
    simp only [exec, execNop, execSqKey, execSqClear, execTfClear, execSha1Comp, execSha256Comp, execClearAll] at h
    split at h
    · cases h; exact .inl ⟨‹_›, id, _, rfl, rfl⟩
    · cases h; exact .inr (.inr ⟨_, ‹_›, rfl, rfl⟩)
    · cases h; exact .inr (.inl ⟨.cmdBusy, by simp, rfl⟩)

/-- What `Issue(c)` can do (R231): accept a decoded command from IDLE, or reject the word. -/
theorem issue_cases {c : Word} {s t : State} (h : issue c s = .next t) :
    (s.seq = .idle ∧ ∃ i f, decode c = .op i ∧ ¬ Unkeyed i s ∧ f.instr = i ∧ t = s.accept f) ∨
    (∃ code, code ≠ .none ∧ t = s.cmdError code) := by
  unfold issue at h
  split at h
  · cases h; exact .inr ⟨.cmdBusy, by simp, rfl⟩
  · rename_i hseq
    split at h
    · cases h; exact .inr ⟨.illegalCmd, by simp, rfl⟩
    · cases h; exact .inr ⟨.badKlen, by simp, rfl⟩
    · rename_i i hi
      rcases exec_cases h with ⟨_, hk, f, hf, ht⟩ | ⟨code, hc, ht⟩ | ⟨f, hf, _, _⟩
      · exact .inl ⟨hseq, i, f, hi, hk, hf, ht⟩
      · exact .inr ⟨code, hc, ht⟩
      · simp [hseq] at hf

/-- What the commit event can do (R236): nothing when SEQ is IDLE, otherwise the commit of the command in flight. -/
theorem commitEvent_cases {s t : State} (h : commitEvent s = .next t) :
    (s.seq = .idle ∧ t = s) ∨ (∃ f, s.seq = .busy f ∧ t = (commitPart f s).finish) := by
  unfold commitEvent at h
  split at h
  · rename_i hseq; cases h; exact .inl ⟨hseq, rfl⟩
  · rename_i f hseq
    refine .inr ⟨f, hseq, ?_⟩
    cases f <;>
      simp [Flight.instr, exec, execNop, execSqKey, execSqEnc, execSqDec, execSqClear, execTfKey, execTfEnc, execTfDec,
        execTfClear, execSha1Comp, execSha256Comp, execClearAll, hseq] at h <;>
      exact h.symm

/-- What one event can do (R237). -/
theorem perform_cases {e : Event} {s t : State} (h : perform e s = .next t) :
    (e.isHost = true ∧ ∃ r, t = s.respond r) ∨
    (∃ r v, e = .hostWrite r 4 v ∧ s.rst = false ∧ Admitted r 4 ∧ regAt r ≠ .cmd ∧
      t = (s.respond .written).writeReg (regAt r) v) ∨
    (∃ r v, e = .hostWrite r 4 v ∧ s.rst = false ∧ Admitted r 4 ∧ regAt r = .cmd ∧
      issue v (s.respond .written) = .next t) ∨
    (e = .commit ∧ commitEvent s = .next t) ∨
    (e = .rst true ∧ t = s.assertReset) ∨
    (e = .rst false ∧ t = s.releaseReset) := by
  cases e with
  | hostRead off size =>
    refine .inl ⟨rfl, ?_⟩
    simp only [perform] at h
    split at h
    · exact ⟨_, (by cases h; rfl)⟩
    · split at h <;> exact ⟨_, (by cases h; rfl)⟩
  | hostWrite off size v =>
    simp only [perform] at h
    split at h
    · exact .inl ⟨rfl, _, (by cases h; rfl)⟩
    · rename_i hr
      split at h
      · rename_i ha
        obtain ⟨rfl, hmod⟩ := ha
        unfold hostWrite at h
        split at h
        · exact .inr (.inr (.inl ⟨off, v, rfl, by simpa using hr, ⟨rfl, hmod⟩, ‹_›, h⟩))
        · exact .inr (.inl ⟨off, v, rfl, by simpa using hr, ⟨rfl, hmod⟩, ‹_›, (by cases h; rfl)⟩)
      · exact .inl ⟨rfl, _, (by cases h; rfl)⟩
  | commit => exact .inr (.inr (.inr (.inl ⟨rfl, h⟩)))
  | rst level =>
    cases level with
    | true => exact .inr (.inr (.inr (.inr (.inl ⟨rfl, (by cases h; rfl)⟩))))
    | false => exact .inr (.inr (.inr (.inr (.inr ⟨rfl, (by cases h; rfl)⟩))))

/-- What a step can do: the commit when no event is left, otherwise the oldest event. -/
theorem step_cases {s t : State} (h : step s = .next t) :
    (s.inputs = [] ∧ commitEvent s = .next t) ∨
    (∃ e rest, s.inputs = e :: rest ∧ perform e { s with inputs := rest } = .next t) := by
  unfold step nextEvent at h
  split at h
  · exact .inl ⟨‹_›, h⟩
  · exact .inr ⟨_, _, ‹_›, h⟩

/-- What a register write leaves unchanged (R68): SEQ, the schedules, DOUT, RST and the model's own fields. -/
theorem writeReg_frame (s : State) (r : Reg) (v : Word) :
    (s.writeReg r v).seq = s.seq ∧ (s.writeReg r v).sq = s.sq ∧ (s.writeReg r v).sqKeyed = s.sqKeyed ∧
    (s.writeReg r v).tf = s.tf ∧ (s.writeReg r v).tfKeyed = s.tfKeyed ∧ (s.writeReg r v).tfKlen = s.tfKlen ∧
    (s.writeReg r v).dout = s.dout ∧ (s.writeReg r v).rst = s.rst ∧ (s.writeReg r v).response = s.response ∧
    (s.writeReg r v).inputs = s.inputs := by
  cases r <;> simp [State.writeReg]

/-- What the commit part leaves unchanged (R234): IE, ERR, ERRCODE, RST and the model's own fields. -/
theorem commitPart_frame (f : Flight) (s : State) :
    (commitPart f s).ie = s.ie ∧ (commitPart f s).err = s.err ∧ (commitPart f s).errcode = s.errcode ∧
    (commitPart f s).rst = s.rst ∧ (commitPart f s).response = s.response ∧ (commitPart f s).inputs = s.inputs := by
  cases f <;> simp [commitPart]

/-- The register at an admitted offset has that offset, but for the reserved slots (R22). -/
theorem regAt_offset {off : BitVec 8} (ha : Admitted off 4) (h : regAt off ≠ .reserved) : off = (regAt off).offset := by
  revert ha h
  revert off
  decide +kernel

/-- CMD stands at one offset only (R22). -/
theorem regAt_eq_cmd {off : BitVec 8} (h : regAt off = .cmd) : off = Reg.cmd.offset := by
  revert h
  revert off
  decide

/-- A run of one step more, when that step answers a next state. -/
theorem run_succ_next {k : Nat} {s t : State} (h : step s = .next t) :
    Sys2Proof.core.run (k + 1) s = Sys2Proof.core.run k t := by
  have h' : Sys2Proof.core.step s = .next t := h
  simp only [Host.Core.run]
  rw [h']

/-- A meaning neither reads nor changes the events to come. -/
theorem exec_inputs {i : Instr} {s t : State} (x : List Event) (h : exec i s = .next t) :
    exec i { s with inputs := x } = .next { t with inputs := x } := by
  obtain ⟨a1, a2, a3, a4, a5, a6, a7, a8, a9, a10, a11, a12, a13, a14, q, a16, a17, a18⟩ := s
  cases i with
  | tfKey k =>
    cases q with
    | idle =>
      have : ∀ k : BitVec 2, k = 0 ∨ k = 1 ∨ k = 2 ∨ k = 3 := by decide
      rcases this k with rfl | rfl | rfl | rfl <;> (cases h; rfl)
    | busy f =>
      cases f <;> first | (cases h; rfl) | skip
      simp only [exec, execTfKey] at h ⊢
      split at h <;> rename_i hk
      · rw [if_pos hk]; cases h; rfl
      · rw [if_neg hk]; cases h; rfl
  | sqEnc | sqDec =>
    cases q with
    | idle => cases a11 <;> (cases h; rfl)
    | busy f => cases f <;> (cases h; rfl)
  | tfEnc | tfDec =>
    cases q with
    | idle => cases a13 <;> (cases h; rfl)
    | busy f => cases f <;> (cases h; rfl)
  | _ =>
    cases q with
    | idle => cases h; rfl
    | busy f => cases f <;> (cases h; rfl)

/-- The commit event neither reads nor changes the events to come. -/
theorem commitEvent_inputs {s t : State} (x : List Event) (h : commitEvent s = .next t) :
    commitEvent { s with inputs := x } = .next { t with inputs := x } := by
  obtain ⟨a1, a2, a3, a4, a5, a6, a7, a8, a9, a10, a11, a12, a13, a14, q, r, a17, a18⟩ := s
  cases q with
  | idle => cases h; rfl
  | busy f => exact exec_inputs x h

/-- An issue neither reads nor changes the events to come. -/
theorem issue_inputs {c : Word} {s t : State} (x : List Event) (h : issue c s = .next t) :
    issue c { s with inputs := x } = .next { t with inputs := x } := by
  obtain ⟨a1, a2, a3, a4, a5, a6, a7, a8, a9, a10, a11, a12, a13, a14, q, r, a17, a18⟩ := s
  cases q with
  | busy f => cases h; rfl
  | idle =>
    simp only [issue] at h ⊢
    cases hd : decode c with
    | illegal => rw [hd] at h; cases h; rfl
    | badKlen => rw [hd] at h; cases h; rfl
    | op i => rw [hd] at h; exact exec_inputs x h

/-- No event reads or changes the events to come. -/
theorem perform_inputs {e : Event} {s t : State} (x : List Event) (h : perform e s = .next t) :
    perform e { s with inputs := x } = .next { t with inputs := x } := by
  cases e with
  | commit => exact commitEvent_inputs x h
  | rst l => cases l <;> (cases h; rfl)
  | hostRead off z =>
    obtain ⟨a1, a2, a3, a4, a5, a6, a7, a8, a9, a10, a11, a12, a13, a14, q, r, a17, a18⟩ := s
    cases r with
    | true => cases h; rfl
    | false =>
      simp only [perform, Bool.false_eq_true, if_false] at h ⊢
      split at h <;> rename_i h2
      · rw [if_pos h2]; cases h; unfold hostRead; cases regAt off <;> rfl
      · rw [if_neg h2]; cases h; rfl
  | hostWrite off z v =>
    obtain ⟨a1, a2, a3, a4, a5, a6, a7, a8, a9, a10, a11, a12, a13, a14, q, r, a17, a18⟩ := s
    cases r with
    | true => cases h; rfl
    | false =>
      simp only [perform, Bool.false_eq_true, if_false] at h ⊢
      split at h <;> rename_i h2
      · rw [if_pos h2]
        unfold hostWrite at h ⊢
        split at h <;> rename_i h3
        · rw [if_pos h3]; exact issue_inputs x h
        · rw [if_neg h3]; cases h; cases regAt off <;> rfl
      · rw [if_neg h2]; cases h; rfl

/-- A turn's event is one step of the core: what `perform` answers, with no event left. -/
theorem takeEvent_eq {e : Event} {s t : State} (h : perform e s = .next t) : takeEvent e s = { t with inputs := [] } := by
  have hp : perform e { s with inputs := [] } = .next { t with inputs := [] } := perform_inputs [] h
  have hs : step { s with inputs := [e] } = .next { t with inputs := [] } := hp
  unfold takeEvent
  rw [hs]

/-- A poll of STATUS with RST released answers the STATUS word and changes no register (R64, R67). -/
theorem takeEvent_poll {s : State} (hr : s.rst = false) :
    takeEvent (hostRd .status) s = { s with response := .data s.statusWord, inputs := [] } := by
  rw [takeEvent_eq (t := { s with response := .data s.statusWord })]
  simp [perform, hostRd, hr, Admitted, Reg.offset, State.respond, hostRead, regAt, State.readReg]

/-- A turn of a host in WAIT (R100): one poll, which ends the loop when it sees DONE or ERR. -/
theorem hostTurn_wait {α : Type} {s : State} (hr : s.rst = false) (bus : Word) (next : Word → HostProgram α) :
    hostTurn ⟨s, hostWait next⟩ (.host bus) = ⟨{ s with response := .data s.statusWord, inputs := [] },
      if s.statusWord &&& 0x6 == 0 then hostWait next else next s.statusWord⟩ := by
  have h : takeEvent (hostRd .status) (HostRun.mk s (hostWait next)).core
      = { s with response := .data s.statusWord, inputs := [] } := takeEvent_poll hr
  show HostRun.mk _ (if _ then _ else _) = _
  rw [h]
  rfl

end Sys2Proof.Machine
end

