-- ==== Sys2Proof/Laws/PerInstr.lean ====
section
/-! SUPPORT. A statement about every command as syntax, with one lemma per constructor: the encoder writes the row of
spec/opcode_table.json that the command stands for. -/

namespace Sys2Proof.Laws

/-- The mask of a command's row in spec/opcode_table.json: every bit is fixed, but for TF_KEY's KLEN, bits 9:8. -/
def rowMask (i : Instr) : Word :=
  match i with
  | .tfKey _ => 0xFFFFFCFF
  | .nop => 0xFFFFFFFF
  | .sqKey => 0xFFFFFFFF
  | .sqEnc => 0xFFFFFFFF
  | .sqDec => 0xFFFFFFFF
  | .sqClear => 0xFFFFFFFF
  | .tfEnc => 0xFFFFFFFF
  | .tfDec => 0xFFFFFFFF
  | .tfClear => 0xFFFFFFFF
  | .sha1Comp => 0xFFFFFFFF
  | .sha256Comp => 0xFFFFFFFF
  | .clearAll => 0xFFFFFFFF

/-- The match of a command's row in spec/opcode_table.json. -/
def rowMatch (i : Instr) : Word :=
  match i with
  | .nop => 0x00000000
  | .sqKey => 0x00000001
  | .sqEnc => 0x00000002
  | .sqDec => 0x00000003
  | .sqClear => 0x00000004
  | .tfKey _ => 0x00000011
  | .tfEnc => 0x00000012
  | .tfDec => 0x00000013
  | .tfClear => 0x00000014
  | .sha1Comp => 0x00000021
  | .sha256Comp => 0x00000022
  | .clearAll => 0x0000003F

/-- The command word of `i` lies in its row, whatever `i`'s field is, and the row's free bits hold that field. -/
def TableRow.Statement (i : Instr) : Prop :=
  encode i &&& rowMask i = rowMatch i ∧ (encode i).extractLsb' 8 2 = i.klen

theorem TableRow.nop : TableRow.Statement .nop := ⟨by decide, by decide⟩

theorem TableRow.sqKey : TableRow.Statement .sqKey := ⟨by decide, by decide⟩

theorem TableRow.sqEnc : TableRow.Statement .sqEnc := ⟨by decide, by decide⟩

theorem TableRow.sqDec : TableRow.Statement .sqDec := ⟨by decide, by decide⟩

theorem TableRow.sqClear : TableRow.Statement .sqClear := ⟨by decide, by decide⟩

theorem TableRow.tfKey (klen : BitVec 2) : TableRow.Statement (.tfKey klen) := by
  unfold TableRow.Statement
  revert klen
  decide

theorem TableRow.tfEnc : TableRow.Statement .tfEnc := ⟨by decide, by decide⟩

theorem TableRow.tfDec : TableRow.Statement .tfDec := ⟨by decide, by decide⟩

theorem TableRow.tfClear : TableRow.Statement .tfClear := ⟨by decide, by decide⟩

theorem TableRow.sha1Comp : TableRow.Statement .sha1Comp := ⟨by decide, by decide⟩

theorem TableRow.sha256Comp : TableRow.Statement .sha256Comp := ⟨by decide, by decide⟩

theorem TableRow.clearAll : TableRow.Statement .clearAll := ⟨by decide, by decide⟩

end Sys2Proof.Laws
end

