-- ==== Sys2Proof/Tests/Slice0.lean ====
section
/-! SUPPORT. Tests with values written from the spec (T<n> are the vectors of spec/95_test_vectors.md), and for every
obligation with hypotheses a named witness that meets them. -/

namespace Sys2Proof.Tests

open Sys2Proof Sys2Proof.Machine

-- One test at a time: checked all at once, the kernel evaluations below wait on one another, each holding a thread's stack.
set_option Elab.async false

/-! ### Well-formedness: the one check refuses its ill-formed term (R94, R262) -/

theorem test_wellFormed_refuses_klen_three : ¬ (Instr.tfKey 0b11).WellFormed := by decide

theorem test_wellFormed_admits_klen_two : (Instr.tfKey 0b10).WellFormed := by decide

/-! ### Decoding: words written bit by bit as RSVD, KLEN, OP from the table of R93 -/

theorem test_decode_nop : decode 0b0000000000000000000000_00_00000000 = .op .nop := by decide

theorem test_decode_sqKey : decode 0b0000000000000000000000_00_00000001 = .op .sqKey := by decide

theorem test_decode_sqEnc : decode 0b0000000000000000000000_00_00000010 = .op .sqEnc := by decide

theorem test_decode_sqDec : decode 0b0000000000000000000000_00_00000011 = .op .sqDec := by decide

theorem test_decode_sqClear : decode 0b0000000000000000000000_00_00000100 = .op .sqClear := by decide

/-- T23, T24, T25. -/
theorem test_decode_tfKey :
    decode 0b0000000000000000000000_00_00010001 = .op (.tfKey 0b00) ∧
    decode 0b0000000000000000000000_01_00010001 = .op (.tfKey 0b01) ∧
    decode 0b0000000000000000000000_10_00010001 = .op (.tfKey 0b10) := by decide

theorem test_decode_tfEnc : decode 0b0000000000000000000000_00_00010010 = .op .tfEnc := by decide

theorem test_decode_tfDec : decode 0b0000000000000000000000_00_00010011 = .op .tfDec := by decide

theorem test_decode_tfClear : decode 0b0000000000000000000000_00_00010100 = .op .tfClear := by decide

theorem test_decode_sha1Comp : decode 0b0000000000000000000000_00_00100001 = .op .sha1Comp := by decide

theorem test_decode_sha256Comp : decode 0b0000000000000000000000_00_00100010 = .op .sha256Comp := by decide

theorem test_decode_clearAll : decode 0b0000000000000000000000_00_00111111 = .op .clearAll := by decide

/-- T26-T31, T82: KLEN 0b11, KLEN elsewhere, RSVD, and the ends of each gap in OP. -/
theorem test_decode_rejections :
    decode 0x311 = .badKlen ∧ decode 0x112 = .illegal ∧ decode 0x102 = .illegal ∧ decode 0x312 = .illegal ∧
    decode 0x400 = .illegal ∧ decode 0x80000011 = .illegal ∧ decode 0x121 = .illegal ∧ decode 0x122 = .illegal ∧
    decode 0x05 = .illegal ∧ decode 0x10 = .illegal ∧ decode 0x15 = .illegal ∧ decode 0x20 = .illegal ∧
    decode 0x23 = .illegal ∧ decode 0x3E = .illegal ∧ decode 0x40 = .illegal ∧ decode 0xFF = .illegal := by decide

theorem test_decodeTableWord :
    decodeTableWord 32 0x211 = some (.tfKey 0b10) ∧ decodeTableWord 8 0x3F = some .clearAll ∧
    decodeTableWord 32 0x311 = none ∧ decodeTableWord 32 0x05 = none ∧ decodeTableWord 64 0x100000000 = none := by decide

/-! ### The codec and the fields (T10-T20) -/

/-- T10-T15. -/
theorem test_codec :
    loadBe32 1 2 3 4 = 0x01020304 ∧ loadLe32 1 2 3 4 = 0x04030201 ∧ storeLe32 0x04030201 = [1, 2, 3, 4] ∧
    storeBe32 0x01020304 = [1, 2, 3, 4] ∧ bswap32 0x01020304 = 0x04030201 ∧ byteBe 0 0x01020304 = 1 ∧
    byteBe 3 0x01020304 = 4 ∧ rotl32 0x80000001 1 = 3 ∧ rotr32 3 1 = 0x80000001 ∧ rotl32 0x01020304 8 = 0x02030401 := by
  decide +kernel

/-- T17, T18, T20. -/
theorem test_fields :
    gmul 0x1F5 0x02 0x80 = 0xF5 ∧ gmul 0x1F5 0x03 0x80 = 0x75 ∧ gmul 0x169 0x5B 0x80 = 0xA0 ∧ gmul 0x169 0xEF 0x02 = 0xB7 ∧
    gmul 0x14D 0xA4 0x80 = 0x0D ∧ ginv 0x1F5 0x02 = 0xFA ∧ gmul 0x1F5 0x02 0xFA = 1 ∧ ginv 0x1F5 0 = 0 := by decide +kernel

/-- T35, T36, T53, T54. -/
theorem test_tables :
    squareSe 0x00 = 0xB1 ∧ squareSe 0x01 = 0xCE ∧ squareSe 0xFF = 0xE2 ∧ squareSd 0xB1 = 0x00 ∧ squareSd 0x00 = 0x35 ∧
    thetaW 0x00010203 = 0x02070005 ∧ thetaW 0x01000000 = 0x02010103 ∧ thetaInvW 0x02070005 = 0x00010203 ∧
    twofishQ0 0x00 = 0xA9 ∧ twofishQ1 0x00 = 0x75 ∧ twofishQ0 0xFF = 0xE0 ∧ twofishQ1 0xFF = 0x91 ∧
    mdsMul [1, 0, 0, 0] = 0xEFEF5B01 ∧ mdsMul [0, 0, 0, 1] = 0x5BEF015B ∧ rsMul [0, 0, 0, 0, 0, 0, 0, 0] = 0 := by
  decide +kernel

/-! ### One step of each command -/

/-- What `f` reads in the next state, none where there is no next state. -/
def after {α : Type} (o : Host.Outcome State Fault Refusal) (f : State → α) : Option α :=
  match o with
  | .next s => some (f s)
  | .fault _ => none
  | .refused _ => none

/-- The state from which the next step writes the word `c` to CMD. -/
def writing (s : State) (c : Nat) : State := s.withFetchWord 32 c

/-- A state with `f` in flight and no event left, so that the next step is its commit. -/
def inFlight (s : State) (f : Flight) : State := { s with seq := .busy f, inputs := [] }

/-- The key and block of T39. -/
def countingBlock : Vector Word 4 := #v[0x00010203, 0x04050607, 0x08090A0B, 0x0C0D0E0F]

/-- Reset, with the Square engine keyed. -/
def squareKeyed (key : Vector Word 4) : State := { State.reset with sq := squareSchedule key, sqKeyed := true }

/-- Reset, with the Twofish engine keyed. -/
def twofishKeyed (key : TwofishKey) : State :=
  { State.reset with tf := twofishSchedule key, tfKeyed := true, tfKlen := twofishKlen key }

/-- The block of T70, T71. -/
def abcBlock : Vector Word 16 := #v[0x61626380, 0, 0, 0, 0, 0, 0, 0, 0, 0, 0, 0, 0, 0, 0, 0x00000018]

/-- T22. -/
theorem test_nop_issues : after (step (writing .reset 0x00)) State.statusWord = some 0x001 := by decide +kernel

/-- T83. -/
theorem test_nop_commits : after (step (inFlight .reset .nop)) State.statusWord = some 0x002 := by decide +kernel

/-- T47. -/
theorem test_sqKey_zero_key :
    after (step (inFlight .reset (.sqKey (Vector.replicate 4 0)))) State.statusWord = some 0x00A := by decide +kernel

/-- T37. -/
theorem test_sqKey_schedule :
    after (step (inFlight .reset (.sqKey countingBlock))) (fun s => (s.sq.ek[0], s.sq.ek[31], s.sq.dk[0], s.sq.dk[28], s.sq.me[0],
      s.sq.me[16], s.sq.md[0])) = some (0x0B0A0808, 0x88182A4F, 0x76011031, 0x02070005, 0x02, 0xFA, 0xFA) := by decide +kernel

/-- T39. -/
theorem test_sqEnc_vector :
    after (step (inFlight (squareKeyed countingBlock) (.sqEnc countingBlock))) (fun s => s.dout.toList)
      = some [0x7C3491D9, 0x4994E70F, 0x0EC2E7A5, 0xCCB5A14F] := by decide +kernel

/-- T32. -/
theorem test_sqEnc_unkeyed : after (step (writing .reset 0x02)) State.statusWord = some 0x304 := by decide +kernel

/-- T45. -/
theorem test_sqDec_vector :
    after (step (inFlight (squareKeyed countingBlock) (.sqDec (Vector.replicate 4 0)))) (fun s => s.dout.toList)
      = some [0x464F2B30, 0x8D9EF72A, 0x30138AA1, 0xF8C2451C] := by decide +kernel

/-- R152, R264: SQ_DEC on an unkeyed engine. -/
theorem test_sqDec_unkeyed : after (step (writing .reset 0x03)) State.statusWord = some 0x304 := by decide +kernel

/-- T48, T52: the Square schedule goes, DOUT and the Twofish flags stay. -/
theorem test_sqClear :
    after (step (inFlight { squareKeyed countingBlock with dout := countingBlock, tfKeyed := true, tfKlen := 0b10 } .sqClear))
      (fun s => (s.statusWord, s.dout[3], s.sq.ek[31])) = some (0x052, 0x0C0D0E0F, 0) := by decide +kernel

/-- T57, T69a: the 192-bit key. -/
theorem test_tfKey_schedule :
    after (step (inFlight .reset (.tfKey (.bits192 #v[0x01234567, 0x89ABCDEF, 0xFEDCBA98, 0x76543210, 0x00112233, 0x44556677]))))
      (fun s => (s.statusWord, s.tf.rk[0], s.tf.rk[1], s.tf.rk[3])) = some (0x032, 0x38394A24, 0xC36D1175, 0x219BFEB4) := by
  decide +kernel

/-- T69b: KLEN 0b11 on a keyed engine. -/
theorem test_tfKey_badKlen :
    after (step (writing { State.reset with tfKeyed := true, tfKlen := 0b10 } 0x311)) State.statusWord = some 0x254 := by
  decide +kernel

/-- T62. -/
theorem test_tfEnc_vector :
    after (step (inFlight (twofishKeyed (.bits256 #v[0x01234567, 0x89ABCDEF, 0xFEDCBA98, 0x76543210, 0x00112233, 0x44556677,
      0x8899AABB, 0xCCDDEEFF])) (.tfEnc (Vector.replicate 4 0)))) (fun s => s.dout.toList)
      = some [0x37527BE0, 0x052334B8, 0x9F0CFCCA, 0xE87CFA20] := by decide +kernel

/-- T29: ILLEGAL_CMD outranks NOT_KEYED. -/
theorem test_tfEnc_illegal_klen : after (step (writing .reset 0x312)) State.statusWord = some 0x104 := by decide +kernel

/-- T66. -/
theorem test_tfDec_vector :
    after (step (inFlight (twofishKeyed (.bits128 (Vector.replicate 4 0))) (.tfDec (Vector.replicate 4 0)))) (fun s => s.dout.toList)
      = some [0x3D28B4E8, 0xA0EA1F90, 0xAB7FAEC1, 0x4054F430] := by decide +kernel

/-- T33. -/
theorem test_tfDec_unkeyed : after (step (writing .reset 0x13)) State.statusWord = some 0x304 := by decide +kernel

/-- T69d. -/
theorem test_tfClear :
    after (step (inFlight (twofishKeyed (.bits128 (Vector.replicate 4 0))) .tfClear)) (fun s => (s.statusWord, s.tf.rk[39], s.tf.sb[3][255]))
      = some (0x002, 0, 0) := by decide +kernel

/-- T70. -/
theorem test_sha1_abc :
    after (step (inFlight .reset (.sha1Comp #v[0x67452301, 0xEFCDAB89, 0x98BADCFE, 0x10325476, 0xC3D2E1F0] abcBlock)))
      (fun s => s.dig.toList) = some [0xA9993E36, 0x4706816A, 0xBA3E2571, 0x7850C26C, 0x9CD0D89D, 0, 0, 0] := by decide +kernel

/-- T79: the commit overwrites DIG0 and keeps DIG5 and DIG6. -/
theorem test_sha1_keeps_upper_digest :
    after (step (inFlight { State.reset with dig := #v[0x12345678, 0, 0, 0, 0, 0x55, 0x66, 0] }
      (.sha1Comp (Vector.replicate 5 0) (Vector.replicate 16 0)))) (fun s => s.dig.toList)
      = some [0x9E1547ED, 0x57EC91C2, 0x30FA8BC8, 0xC7785A54, 0xA7EFA5E3, 0x55, 0x66, 0] := by decide +kernel

/-- T71. -/
theorem test_sha256_abc :
    after (step (inFlight .reset (.sha256Comp #v[0x6A09E667, 0xBB67AE85, 0x3C6EF372, 0xA54FF53A, 0x510E527F, 0x9B05688C, 0x1F83D9AB,
      0x5BE0CD19] abcBlock))) (fun s => s.dig.toList)
      = some [0xBA7816BF, 0x8F01CFEA, 0x414140DE, 0x5DAE2223, 0xB00361A3, 0x96177A9C, 0xB410FF61, 0xF20015AD] := by decide +kernel

/-- T80: MSG0 as written while the command was in flight stays. -/
theorem test_sha256_keeps_message :
    after (step (inFlight { State.reset with msg := State.reset.msg.set 0 0xFFFFFFFF }
      (.sha256Comp (Vector.replicate 8 0) (Vector.replicate 16 0)))) (fun s => (s.dig[0], s.msg[0], s.statusWord))
      = some (0x7CA51614, 0xFFFFFFFF, 0x002) := by decide +kernel

/-- T99. -/
theorem test_clearAll :
    after (step (inFlight { State.reset with ie := true, sqKeyed := true, tfKeyed := true, dout := countingBlock, key := State.reset.key.set 7 1 }
      .clearAll)) (fun s => (s.statusWord, s.ctrlWord, s.irq, s.dout[3], s.key[7])) = some (0x002, 1, true, 0, 0) := by decide +kernel

/-- R233: CLEAR_ALL does not clear ERR or ERRCODE. -/
theorem test_clearAll_keeps_error :
    after (step (inFlight { State.reset with err := true, errcode := .cmdBusy } .clearAll)) State.statusWord = some 0x406 := by
  decide +kernel

/-! ### The window, rejections, interrupt and reset (T84-T103) -/

/-- T84, T85: CMD_BUSY comes first. -/
theorem test_cmdBusy_first :
    after (issue 0x312 (inFlight .reset .nop)) State.statusWord = some 0x405 ∧
    after (issue 0x013 (inFlight .reset .nop)) State.statusWord = some 0x405 := by decide +kernel

/-- T86, T87. -/
theorem test_first_code_kept :
    after (issue 0x311 { State.reset with err := true, errcode := .notKeyed }) State.statusWord = some 0x304 ∧
    after (hostWrite 0x08 0x4 { State.reset with err := true, errcode := .notKeyed }) State.statusWord = some 0x000 := by
  decide +kernel

/-- T88, T89. -/
theorem test_status_write :
    after (hostWrite 0x08 0xFFFFFFFF { State.reset with done := true, sqKeyed := true, tfKeyed := true }) State.statusWord = some 0x018 ∧
    after (hostWrite 0x08 0x6 .reset) State.statusWord = some 0x000 := by decide +kernel

/-- T91, T92. -/
theorem test_ctrl_write :
    after (hostWrite 0x00 1 { State.reset with done := true }) State.irq = some true ∧
    after (hostWrite 0x00 0 { State.reset with done := true, ie := true }) (fun s => (s.irq, s.done)) = some (false, true) ∧
    after (hostWrite 0x00 0xFFFFFFFF .reset) (fun s => hostRead s 0x00) = some 1 := by decide +kernel

/-- T93, T94, T97: KEY reads 0, DOUT and the reserved slots ignore writes. -/
theorem test_write_only_and_read_only :
    after (hostWrite 0x10 0xDEADBEEF .reset) (fun s => (s.key[0], hostRead s 0x10)) = some (0xDEADBEEF, 0) ∧
    after (hostWrite 0x40 0x12345678 { State.reset with dout := countingBlock }) (fun s => hostRead s 0x40) = some 0x00010203 ∧
    after (hostWrite 0xFC 0xFFFFFFFF .reset) (fun s => hostRead s 0xFC) = some 0 := by decide +kernel

/-- T98. -/
theorem test_malformed_accesses :
    after (perform (.hostWrite 0x30 1 0xFF) .reset) (fun s => (s.response, s.din[0], s.err)) = some (.busError 0x30, 0, false) ∧
    after (perform (.hostRead 0x08 2) .reset) State.response = some (.busError 0x08) ∧
    after (perform (.hostWrite 0x31 4 0xFF) .reset) (fun s => (s.response, s.din[0])) = some (.busError 0x31, 0) := by decide +kernel

/-- T103: the command in flight is abandoned. -/
theorem test_reset_abandons :
    after (perform (.rst true) (inFlight (squareKeyed countingBlock) (.sqEnc countingBlock)))
      (fun s => (s.statusWord, s.sq.ek[0], s.seq, hostRead s 0x40)) = some (0x000, 0, .idle, 0) := by decide +kernel

/-- T51: DIN written while BUSY is not the block encrypted. -/
theorem test_snapshot_is_used :
    after (perform .commit { inFlight (squareKeyed countingBlock) (.sqEnc countingBlock) with din := Vector.replicate 4 0xFFFFFFFF })
      (fun s => (s.dout[0], s.din[0])) = some (0x7C3491D9, 0xFFFFFFFF) := by decide +kernel

/-! ### Host programs (R100, R220, R297) -/

/-- The accesses a program makes in at most `n` lines, each as its offset and the word written (none for a read), when every
read of STATUS shows DONE and every other read gives `w`. -/
def accesses {α : Type} (w : Word) : Nat → HostProgram α → List (BitVec 8 × Option Word)
  | 0, _ => []
  | n + 1, p =>
    match p with
    | .done _ => []
    | .write off v next => (off, some v) :: accesses w n next
    | .read off next => (off, none) :: accesses w n (next w)
    | .poll _ next => (0x08, none) :: accesses w n (next 0x002)
    | .waitIrq next => accesses w n next

/-- R220 with one "abc" block: five writes of DIG, sixteen of MSG, EXEC, the reads of DIG0 to DIG4. -/
theorem test_compressN :
    let es := accesses 0 60 (compressN .sha1 #v[0x67452301, 0xEFCDAB89, 0x98BADCFE, 0x10325476, 0xC3D2E1F0] [abcBlock] .done)
    es.take 1 = [(0x50, some 0x67452301)] ∧ es[5]? = some (0x80, some 0x61626380) ∧
    es.drop 21 = [(0x08, some 0x6), (0x04, some 0x21), (0x08, none), (0x50, none), (0x54, none), (0x58, none), (0x5C, none),
      (0x60, none)] ∧
    (accesses 0 60 (compressN .sha256 (Vector.replicate 8 0) [] .done)).drop 15 = [(0x6C, none)] := by decide +kernel

/-- The word a program ended with. -/
def endWord (p : HostProgram Word) : Option Word :=
  match p with
  | .done w => some w
  | .write _ _ _ => none
  | .read _ _ => none
  | .poll _ _ => none
  | .waitIrq _ => none

/-- P4 case A: with ERR set and NOP in flight WAIT ends at its first poll, BUSY still 1. With ERR clear it goes on. -/
theorem test_wait_ends_on_pending_error :
    endWord (hostTurn ⟨(inFlight .reset .nop).cmdError .cmdBusy, hostWait .done⟩ (.host 0)).program = some 0x405 ∧
    endWord (hostTurn ⟨inFlight .reset .nop, hostWait .done⟩ (.host 0)).program = none := by decide +kernel

/-- R290, U10: what a read gets while RST is held is the bus's. -/
theorem test_read_while_reset_is_the_bus :
    endWord (hostTurn ⟨{ State.reset with rst := true }, lineRd .status .done⟩ (.host 0xA5)).program = some 0xA5 := by
  decide +kernel

/-! ### Witnesses: for every obligation with hypotheses, a concrete state and operands that meet them -/

/-- The events of a state set to `es`. -/
def withEvents (s : State) (es : List Event) : State := { s with inputs := es }

theorem witness_DecodeExactlyInvertsEncode :
    decode 0x00000211 = .op (.tfKey 0b10) ∧ (Instr.tfKey 0b10).WellFormed ∧ encode (.tfKey 0b10) = 0x00000211 ∧
    (Instr.tfKey 0b00).WellFormed ∧ encode (.tfKey 0b00) = 0x00000011 := by decide

theorem witness_IllegalWordsAreRejected :
    State.reset.seq = .idle ∧ decode 0x00000400 = .illegal ∧ decode 0x80000000 = .illegal ∧ decode 0x00000005 = .illegal ∧
    decode 0x000000FF = .illegal ∧ decode 0x00000100 = .illegal ∧ decode 0x0000033F = .illegal := by decide

theorem witness_UnsupportedKeyLengthIsRejected : State.reset.seq = .idle ∧ decode 0x00000311 = .badKlen := by decide

theorem witness_StepRunsTheDecodedCommand :
    (withEvents .reset [.hostWrite Reg.cmd.offset 4 0x3F, .commit]).inputs = .hostWrite Reg.cmd.offset 4 0x3F :: [.commit] ∧
    (withEvents .reset [.hostWrite Reg.cmd.offset 4 0x3F, .commit]).rst = false ∧
    (withEvents .reset [.hostWrite Reg.cmd.offset 4 0x3F, .commit]).seq = .idle ∧ decode 0x3F = .op .clearAll :=
  ⟨rfl, rfl, rfl, by decide⟩

theorem witness_StepCommitsTheCommandInFlight :
    (inFlight .reset .nop).seq = .busy .nop ∧ (inFlight .reset .nop).inputs = [] ∧
    (withEvents (inFlight .reset .nop) [.commit]).seq = .busy .nop ∧
    (withEvents (inFlight .reset .nop) [.commit]).inputs = [.commit] := ⟨rfl, rfl, rfl, rfl⟩

theorem witness_ReadReturnsTheWindow :
    State.reset.rst = false ∧ (0x00 : BitVec 8).toNat % 4 = 0 ∧ (0xFC : BitVec 8).toNat % 4 = 0 := by decide

theorem witness_WriteChangesOnlyItsRegister : State.reset.rst = false := rfl

theorem witness_MalformedAccessGetsABusError :
    State.reset.rst = false ∧ ((3 : Nat) ≠ 4 ∨ (0x30 : BitVec 8).toNat % 4 ≠ 0) ∧ ((5 : Nat) ≠ 4 ∨ (0xFC : BitVec 8).toNat % 4 ≠ 0) ∧
    ((4 : Nat) ≠ 4 ∨ (0x01 : BitVec 8).toNat % 4 ≠ 0) ∧ ((4 : Nat) ≠ 4 ∨ (0xFF : BitVec 8).toNat % 4 ≠ 0) ∧
    (0x00 : BitVec 8).toNat % 4 = 0 ∧ (0xFC : BitVec 8).toNat % 4 = 0 := by decide

theorem witness_StatusWriteClearsDoneAndError : State.reset.rst = false := rfl

theorem witness_ReservedSpaceReadsZeroAndIgnoresWrites :
    (∀ off ∈ ([0x70, 0x7C, 0xC0, 0xFC] : List (BitVec 8)),
      off.toNat % 4 = 0 ∧ ((0x70 ≤ off.toNat ∧ off.toNat ≤ 0x7C) ∨ 0xC0 ≤ off.toNat)) ∧
    ((1 : Nat) ≤ 1 ∧ (1 : Nat) < 32) ∧ ((1 : Nat) ≤ 31 ∧ (31 : Nat) < 32) ∧
    (∀ b ∈ [7, 12, 31], b = 7 ∨ (12 ≤ b ∧ b < 32)) := by decide

theorem witness_WindowMapIsFaithful :
    (0x70 : BitVec 8).toNat % 4 = 0 ∧ (0xBC : BitVec 8).toNat % 4 = 0 ∧
    (Config.pBase + 256 < Config.pBase ∨ Config.pBase + 256 ≤ Config.pBase + 256) :=
  ⟨by decide, by decide, .inr (Nat.le_refl _)⟩

theorem witness_InterruptLineFollowsItsCauses :
    (0x00000006 : Word).getLsbD 1 = true ∧ (0x00000006 : Word).getLsbD 2 = true := by decide

theorem witness_ReadsRevealNoSecret :
    SameToReads State.reset { squareKeyed countingBlock with sqKeyed := false, key := State.reset.key.set 0 1 } ∧
    SameToReads (inFlight .reset .nop) (inFlight .reset (.sqKey countingBlock)) ∧
    State.reset.rst = (inFlight .reset .nop).rst := by
  simp [SameToReads, squareKeyed, inFlight, State.busy, State.reset]

theorem witness_EveryWordIsRejectedWhileBusy : (inFlight .reset .nop).seq = .busy .nop := rfl

theorem witness_RejectionPriority :
    (inFlight .reset .nop).seq ≠ .idle ∧ (inFlight .reset .nop).tfKeyed = false ∧
    State.reset.seq = .idle ∧ State.reset.tfKeyed = false ∧ decode 0x312 = .illegal ∧ decode 0x311 = .badKlen ∧
    decode 0x13 = .op .tfDec ∧ Unkeyed .tfDec .reset ∧ decode 0x00 = .op .nop ∧ ¬ Unkeyed .nop .reset ∧
    decode 0x02 = .op .sqEnc ∧ ¬ Unkeyed .sqEnc (squareKeyed countingBlock) := by
  refine ⟨by simp [inFlight], rfl, rfl, rfl, by decide, by decide, by decide, rfl, by decide, id, by decide, ?_⟩
  simp [Unkeyed, squareKeyed]

theorem witness_CipherCommandsNeedASchedule :
    State.reset.seq = .idle ∧ State.reset.sqKeyed = false ∧ State.reset.tfKeyed = false ∧ State.reset.errcode ≠ .notKeyed ∧
    Instr.sha1Comp ≠ .sqEnc ∧ Instr.sha1Comp ≠ .sqDec ∧ Instr.sha1Comp ≠ .tfEnc ∧ Instr.sha1Comp ≠ .tfDec ∧
    issue (encode .sha1Comp) .reset
      = .next (State.reset.accept (.sha1Comp (Vector.replicate 5 0) (Vector.replicate 16 0))) := by
  refine ⟨rfl, rfl, rfl, by decide, by decide, by decide, by decide, by decide, rfl⟩

theorem witness_RejectionRecordsTheFirstCode :
    State.reset.err = false ∧ (State.reset.cmdError .badKlen).err = true ∧ (0x00000004 : Word).getLsbD 2 = true := by decide

theorem witness_OnlyRejectionsSetTheErrorFlag :
    (∃ t, issue 0x311 .reset = .next t ∧ t.seq = State.reset.seq) ∧ (∃ t, issue 0x00 .reset = .next t ∧ t.seq ≠ .idle) ∧
    (0x00000004 : Word).getLsbD 2 = true ∧
    (∃ t, step (withEvents .reset [hostCmdRaw 0x400]) = .next t ∧ t.err ≠ State.reset.err) ∧
    (∃ t, step (withEvents (State.reset.cmdError .badKlen) [hostWr .status 0x4]) = .next t ∧ t.err = false) ∧
    (∃ t, step (withEvents (State.reset.cmdError .badKlen) [.rst true]) = .next t ∧ t.errcode ≠ .badKlen) :=
  ⟨⟨_, rfl, rfl⟩, ⟨_, rfl, by simp [State.accept]⟩, by decide, ⟨_, rfl, by decide⟩, ⟨_, rfl, by decide⟩, ⟨_, rfl, by decide⟩⟩

theorem witness_DoneMarksTheLastCommit :
    (inFlight .reset .nop).seq = .busy .nop ∧ State.reset.seq = .idle ∧
    (∃ t, issue 0x00 .reset = .next t ∧ t.seq ≠ .idle) ∧ (0x00000002 : Word).getLsbD 1 = true ∧
    (∃ t, issue 0x311 .reset = .next t ∧ t.seq = State.reset.seq) :=
  ⟨rfl, rfl, ⟨_, rfl, by simp [State.accept]⟩, by decide, ⟨_, rfl, rfl⟩⟩

theorem witness_SequencerHasNoOtherTransition :
    (∃ t, step (withEvents .reset [hostCmd .nop]) = .next t ∧ t.seq ≠ .idle) ∧
    (∃ t, step (inFlight .reset .nop) = .next t ∧ t.seq ≠ .busy .nop) ∧
    (∃ t, step (withEvents (inFlight .reset .nop) [.rst true]) = .next t ∧ t.seq ≠ .busy .nop) :=
  ⟨⟨_, rfl, by simp [State.accept]⟩, ⟨_, rfl, by simp [State.finish]⟩, ⟨_, rfl, by simp [State.assertReset, State.reset]⟩⟩

theorem witness_CommitOfEveryOperation :
    (inFlight .reset .nop).seq = .busy .nop ∧ (inFlight .reset (.sqKey countingBlock)).seq = .busy (.sqKey countingBlock) ∧
    (inFlight .reset (.tfKey (.bits128 countingBlock))).seq = .busy (.tfKey (.bits128 countingBlock)) ∧
    (inFlight .reset .clearAll).seq = .busy .clearAll := ⟨rfl, rfl, rfl, rfl⟩

theorem witness_OnlyKeyAndClearCommandsChangeASchedule :
    (∃ t, step (inFlight .reset (.sqKey countingBlock)) = .next t ∧ t.sqKeyed ≠ State.reset.sqKeyed) ∧
    (∃ t, step (inFlight (squareKeyed countingBlock) .sqClear) = .next t ∧ t.sqKeyed ≠ (squareKeyed countingBlock).sqKeyed) ∧
    (∃ t, step (inFlight .reset (.tfKey (.bits128 countingBlock))) = .next t ∧ t.tfKeyed ≠ State.reset.tfKeyed) ∧
    (∃ t, step (withEvents (squareKeyed countingBlock) [.rst true]) = .next t ∧ t.sqKeyed ≠ (squareKeyed countingBlock).sqKeyed) :=
  ⟨⟨_, rfl, by simp [State.loadSquare, State.finish, State.reset]⟩,
    ⟨_, rfl, by simp [State.clearSquare, State.finish, squareKeyed]⟩,
    ⟨_, rfl, by simp [State.loadTwofish, State.finish, State.reset]⟩,
    ⟨_, rfl, by simp [State.assertReset, squareKeyed, State.reset]⟩⟩

theorem witness_OnlyTheNamedEventsWriteTheDataRegisters :
    (∃ t, step (withEvents .reset [hostWr .ctrl 1]) = .next t ∧ t.ie ≠ State.reset.ie) ∧
    (∃ t, step (withEvents .reset [hostWr (.key 7) 1]) = .next t ∧ t.key[7] ≠ State.reset.key[7]) ∧
    (∃ t, step (withEvents .reset [hostWr (.din 3) 1]) = .next t ∧ t.din[3] ≠ State.reset.din[3]) ∧
    (∃ t, step (inFlight .reset (.sqEnc countingBlock)) = .next t ∧ t.dout[0] ≠ State.reset.dout[0]) ∧
    (∃ t, step (inFlight .reset (.sha1Comp (Vector.replicate 5 0) (Vector.replicate 16 0))) = .next t ∧
      t.dig[0] ≠ State.reset.dig[0]) ∧
    (∃ t, step (withEvents .reset [hostWr (.msg 15) 1]) = .next t ∧ t.msg[15] ≠ State.reset.msg[15]) :=
  ⟨⟨_, rfl, by decide⟩, ⟨_, rfl, by decide⟩, ⟨_, rfl, by decide⟩, ⟨_, rfl, by decide +kernel⟩, ⟨_, rfl, by decide +kernel⟩,
    ⟨_, rfl, by decide⟩⟩

theorem witness_HostAccessesDoNotReachTheCommandInFlight :
    let es := [hostWr (.din 0) 1, hostRd .status, hostCmd .nop]
    let s := withEvents (inFlight (squareKeyed countingBlock) (.sqEnc countingBlock)) (es ++ [.commit])
    s.seq = .busy (.sqEnc countingBlock) ∧ (∀ e ∈ es, e.isHost = true) ∧ s.inputs = es ++ [.commit] ∧
    ∀ f : Flight, (withEvents (inFlight .reset f) (es ++ [.commit])).seq = .busy f :=
  ⟨rfl, by decide, rfl, fun _ => rfl⟩

theorem witness_EveryAcceptedCommandCommits :
    let s := withEvents (inFlight .reset .clearAll) [hostRd .status, .commit]
    s.seq = .busy .clearAll ∧ (∀ e ∈ s.inputs, e.isNotReset = true) :=
  ⟨rfl, by decide⟩

theorem witness_SafeIssueEndsInDoneOrError :
    let turns : List HostTurn := [.host 0, .host 0, .host 0, .other .commit, .host 0]
    State.reset.seq = .idle ∧ State.reset.rst = false ∧ (∀ e, HostTurn.other e ∈ turns → e = .commit) ∧
    (∃ w, (hostRun ⟨State.reset, hostExec .nop .done⟩ turns).program = .done w) ∧
    turns = [.host 0, .host 0, .host 0] ++ .other .commit :: .host 0 :: [] ∧
    2 ≤ ([.host 0, .host 0, .host 0] : List HostTurn).countP HostTurn.isHost :=
  ⟨rfl, rfl, by simp, ⟨0x002, rfl⟩, rfl, by decide⟩

theorem witness_CommitFallsExactlyAtItsLatency :
    (let t : TimedState := { core := State.reset, left := 0 }
     t.core.seq = .idle ∧ (timedEvent (hostCmd .nop) t).core.seq = .busy .nop) ∧
    (let t : TimedState := { core := inFlight .reset .nop, left := 2 }
     let inputs : List TimedInput := [.event (hostRd .status), .clock, .event .commit]
     t.core.seq = .busy .nop ∧ t.left = 1 + 1 ∧ (∀ level, TimedInput.event (.rst level) ∉ inputs) ∧ inputs.count .clock = 1) :=
  ⟨⟨rfl, rfl⟩, rfl, rfl, by decide, by decide⟩

theorem witness_ResetAbandonsTheCommandAndZeroesTheCore :
    (withEvents (inFlight .reset .nop) [.rst true, .rst false]).inputs = .rst true :: .rst false :: [] ∧
    (State.reset.assertReset).rst = true := ⟨rfl, rfl⟩

theorem witness_EveryStepKeepsInv :
    Inv (inFlight (squareKeyed countingBlock) (.sqEnc countingBlock)) ∧
    ∃ t, step (inFlight (squareKeyed countingBlock) (.sqEnc countingBlock)) = .next t := by
  refine ⟨⟨?_, ?_, ?_, ?_, ?_⟩, _, rfl⟩
  · simp [ErrorsAgree, inFlight, squareKeyed]
  · exact ⟨fun _ => ⟨countingBlock, rfl⟩, fun h => by simp [inFlight, squareKeyed] at h⟩
  · simp [TwofishLifecycle, inFlight, squareKeyed]
  · simp [FlightAccepted, inFlight, squareKeyed]
  · simp [ResetHeld, inFlight, squareKeyed]

/-- The hypotheses of the twelve statements `<Command>Completes`: idle, keyed and unkeyed, and each command in flight. -/
theorem witness_Completes :
    State.reset.seq = .idle ∧ State.reset.sqKeyed = false ∧ State.reset.tfKeyed = false ∧
    (squareKeyed countingBlock).seq = .idle ∧ (squareKeyed countingBlock).sqKeyed = true ∧
    (twofishKeyed (.bits128 countingBlock)).seq = .idle ∧ (twofishKeyed (.bits128 countingBlock)).tfKeyed = true ∧
    (∀ f : Flight, (inFlight .reset f).seq = .busy f) :=
  ⟨rfl, rfl, rfl, rfl, rfl, rfl, rfl, fun _ => rfl⟩

theorem witness_CodecLoadsInvertStores : (0 : Nat) < 4 ∧ (3 : Nat) < 4 := by decide

theorem witness_FieldMultiplicationLaws :
    (polyRs = polySquare ∨ polyRs = polyMds ∨ polyRs = polyRs) ∧ (polyMds = polySquare ∨ polyMds = polyMds ∨ polyMds = polyRs) ∧
    (polySquare = polySquare ∨ polySquare = polyMds ∨ polySquare = polyRs) ∧ (0x01 : Byte) ≠ 0 ∧ (0xFF : Byte) ≠ 0 := by decide

theorem witness_TwofishPermutationsFollowTheirConstruction :
    twofishQ0 0xFF = twofishQ0 0xFF ∧ twofishQ1 0x00 = twofishQ1 0x00 := ⟨rfl, rfl⟩

theorem witness_ShaRecurrences :
    ((16 : Nat) ≤ 16 ∧ (16 : Nat) < 80) ∧ ((16 : Nat) ≤ 79 ∧ (79 : Nat) < 80) ∧ ((16 : Nat) ≤ 16 ∧ (16 : Nat) < 64) ∧
    ((16 : Nat) ≤ 63 ∧ (63 : Nat) < 64) := by decide

end Sys2Proof.Tests
end

section
/-! Timed runs are untimed runs (spec/00_scope.md R4, spec/44_control.md R236, R237). The order that a timed run stands for
is read off it one input at a time: the environment's events as they come, and a commit at each clock edge that completes
a count. One input then is at most one step of the core, because every event has a next state. -/

namespace Sys2Proof.Machine

/-! ### Every event has a next state (R268) -/

/-- A command's meaning answers a next state, from IDLE and with any command in flight. -/
theorem exec_answers (i : Instr) (s : State) : ∃ t, exec i s = .next t := by
  cases i with
  | tfKey klen =>
    simp only [exec, execTfKey]
    split
    · split <;> exact ⟨_, rfl⟩
    · split <;> exact ⟨_, rfl⟩
    · exact ⟨_, rfl⟩
  | sqEnc | sqDec | tfEnc | tfDec =>
    simp only [exec, execSqEnc, execSqDec, execTfEnc, execTfDec]
    split
    · split <;> exact ⟨_, rfl⟩
    · exact ⟨_, rfl⟩
    · exact ⟨_, rfl⟩
  | nop | sqKey | sqClear | tfClear | sha1Comp | sha256Comp | clearAll =>
    simp only [exec, execNop, execSqKey, execSqClear, execTfClear, execSha1Comp, execSha256Comp, execClearAll]
    split <;> exact ⟨_, rfl⟩

theorem issue_answers (c : Word) (s : State) : ∃ t, issue c s = .next t := by
  unfold issue
  split
  · exact ⟨_, rfl⟩
  · split
    · exact ⟨_, rfl⟩
    · exact ⟨_, rfl⟩
    · exact exec_answers _ s

theorem hostWrite_answers (off : BitVec 8) (v : Word) (s : State) : ∃ t, hostWrite off v s = .next t := by
  unfold hostWrite
  split
  · exact issue_answers v s
  · exact ⟨_, rfl⟩

theorem commitEvent_answers (s : State) : ∃ t, commitEvent s = .next t := by
  unfold commitEvent
  split
  · exact ⟨_, rfl⟩
  · exact exec_answers _ s

theorem perform_answers (e : Event) (s : State) : ∃ t, perform e s = .next t := by
  cases e with
  | hostRead off size =>
    simp only [perform]
    split
    · exact ⟨_, rfl⟩
    · split <;> exact ⟨_, rfl⟩
  | hostWrite off size v =>
    simp only [perform]
    split
    · exact ⟨_, rfl⟩
    · split
      · exact hostWrite_answers off v _
      · exact ⟨_, rfl⟩
  | commit => exact commitEvent_answers s
  | rst level => exact ⟨_, rfl⟩

/-! ### A run over a given order -/

/-- The first event of an order is one step; the run goes on from its next state over the rest. -/
theorem run_order_cons {e : Event} {s t : State} (es : List Event) (h : perform e s = .next t) :
    Sys2Proof.core.run (e :: es).length { s with inputs := e :: es } =
      Sys2Proof.core.run es.length { t with inputs := es } := by
  have hperform : perform e { s with inputs := es } = .next { t with inputs := es } := perform_inputs es h
  have hstep : step { s with inputs := e :: es } = .next { t with inputs := es } := hperform
  exact run_succ_next hstep

/-! ### The order that a timed run stands for -/

/-- The event that a timed input is in the untimed order, if it is one: the clock edge that completes a count is the commit
(R236), and what the environment does is itself. -/
def placedEvent (t : TimedState) (i : TimedInput) : Option Event :=
  match i with
  | .clock => if t.left = 1 then some .commit else none
  | .event e => TimedInput.environment (.event e)

/-- The untimed order of a timed run. -/
def untimedOrder (t : TimedState) : List TimedInput → List Event
  | [] => []
  | i :: is => (placedEvent t i).toList ++ untimedOrder (timedStep t i) is

theorem timedEvent_core (e : Event) (t : TimedState) : perform e t.core = .next (timedEvent e t).core := by
  obtain ⟨s, hs⟩ := perform_answers e t.core
  simp only [timedEvent, hs]

/-- A timed input that stands for an event takes the core where that event takes it. -/
theorem perform_placedEvent {t : TimedState} {i : TimedInput} {e : Event} (h : placedEvent t i = some e) :
    perform e t.core = .next (timedStep t i).core := by
  cases i with
  | clock =>
    obtain ⟨hleft, rfl⟩ : t.left = 1 ∧ .commit = e := by simpa [placedEvent] using h
    obtain ⟨s, hs⟩ := commitEvent_answers t.core
    simp only [timedStep, timedClock, hleft, perform, hs]
  | event e' =>
    cases e' with
    | commit => cases h
    | hostRead off size => cases h; exact timedEvent_core _ t
    | hostWrite off size v => cases h; exact timedEvent_core _ t
    | rst level => cases h; exact timedEvent_core _ t

/-- A timed input that stands for no event leaves the core as it is: an edge within a count or with none running, or a
`commit`, which is no input. -/
theorem timedStep_core_of_placedEvent_eq_none {t : TimedState} {i : TimedInput} (h : placedEvent t i = none) :
    (timedStep t i).core = t.core := by
  cases i with
  | clock =>
    have hleft : t.left ≠ 1 := by simpa [placedEvent] using h
    simp only [timedStep, timedClock]
    split
    · rfl
    · exact absurd ‹t.left = 1› hleft
    · rfl
  | event e =>
    cases e with
    | commit => rfl
    | hostRead | hostWrite | rst => cases h

/-- One input's part of the order, without its commits, is what the environment does in it. -/
theorem placedEvent_filter (t : TimedState) (i : TimedInput) :
    (placedEvent t i).toList.filter (fun e => e ≠ .commit) = i.environment.toList := by
  cases i with
  | clock => by_cases hleft : t.left = 1 <;> simp [placedEvent, hleft, TimedInput.environment]
  | event e => cases e <;> simp [placedEvent, TimedInput.environment]

/-- Only a clock edge places a commit, and it places one at most. -/
theorem placedEvent_count_commit (t : TimedState) (i : TimedInput) :
    (placedEvent t i).toList.count .commit ≤ [i].count .clock := by
  cases i with
  | clock => by_cases hleft : t.left = 1 <;> simp [placedEvent, hleft]
  | event e => cases e <;> simp [placedEvent, TimedInput.environment]

theorem untimedOrder_filter (t : TimedState) (inputs : List TimedInput) :
    (untimedOrder t inputs).filter (fun e => e ≠ .commit) = inputs.filterMap TimedInput.environment := by
  induction inputs generalizing t with
  | nil => rfl
  | cons i is ih =>
    rw [untimedOrder, List.filter_append, placedEvent_filter, ih]
    cases h : i.environment <;> simp [h]

theorem untimedOrder_count_commit (t : TimedState) (inputs : List TimedInput) :
    (untimedOrder t inputs).count .commit ≤ inputs.count .clock := by
  induction inputs generalizing t with
  | nil => exact le_rfl
  | cons i is ih =>
    rw [untimedOrder, List.count_append, ← List.singleton_append, List.count_append]
    exact Nat.add_le_add (placedEvent_count_commit t i) (ih (timedStep t i))

/-- The core of a timed run is where the untimed run over its order ends. -/
theorem run_untimedOrder (t : TimedState) (inputs : List TimedInput) :
    Sys2Proof.core.run (untimedOrder t inputs).length { t.core with inputs := untimedOrder t inputs } =
      .next { (timedRun t inputs).core with inputs := [] } := by
  induction inputs generalizing t with
  | nil => rfl
  | cons i is ih =>
    have hrun : timedRun t (i :: is) = timedRun (timedStep t i) is := rfl
    cases h : placedEvent t i with
    | none =>
      have horder : untimedOrder t (i :: is) = untimedOrder (timedStep t i) is := by simp [untimedOrder, h]
      rw [horder, hrun, ← timedStep_core_of_placedEvent_eq_none h]
      exact ih _
    | some e =>
      have horder : untimedOrder t (i :: is) = e :: untimedOrder (timedStep t i) is := by simp [untimedOrder, h]
      rw [horder, hrun, run_order_cons _ (perform_placedEvent h)]
      exact ih _

/-- Settles O32: the order is read off the timed run, and each of its events is one step. -/
theorem timedRunsAreUntimedRuns : Obligations.TimedRunsAreUntimedRuns := fun t inputs =>
  ⟨untimedOrder t inputs, untimedOrder_filter t inputs, untimedOrder_count_commit t inputs, run_untimedOrder t inputs⟩

end Sys2Proof.Machine
end

section
/-! What one step can do, said once (spec/44_control.md R237): the inversion of `step` into the seven effects an event can
have on the registers. The invariant and every statement about who writes what are case splits on it. -/

namespace Sys2Proof.Machine

/-- The effects of one step. Each names the event that has it, and the whole next state. -/
inductive StepEffect (s : State) : State → Prop where
  /-- A read, a refused access, a write to a reserved slot, or a commit with SEQ IDLE: no register changes. -/
  | unchanged (rest : List Event) (r : Response) : StepEffect s { s with inputs := rest, response := r }
  /-- An admitted host write to a register other than CMD (R68). -/
  | written (rest : List Event) (r : Reg) (v : Word) (hw : Writing s r v) :
      StepEffect s (State.writeReg { s with inputs := rest, response := .written } r v)
  /-- A CMD write that is rejected (R266). -/
  | rejected (rest : List Event) (c : Word) (code : ErrCode) (hw : Writing s .cmd c) (hcode : code ≠ .none) :
      StepEffect s (State.cmdError { s with inputs := rest, response := .written } code)
  /-- A CMD write that is accepted (R231). -/
  | accepted (rest : List Event) (c : Word) (f : Flight) (hw : Writing s .cmd c) (hidle : s.seq = .idle)
      (hkeyed : ¬ Unkeyed f.instr s) :
      StepEffect s (State.accept { s with inputs := rest, response := .written } f)
  /-- The commit of the command in flight (R234). -/
  | committed (rest : List Event) (f : Flight) (hc : Committing s f) :
      StepEffect s (commitPart f { s with inputs := rest }).finish
  /-- RST is asserted (R290). -/
  | reset (rest : List Event) (hr : Resetting s) : StepEffect s (State.assertReset { s with inputs := rest })
  /-- RST is released (R290). -/
  | released (rest : List Event) : StepEffect s (State.releaseReset { s with inputs := rest })

/-- A commit event, from the list or because none is left, either finds SEQ IDLE or commits the command in flight. -/
theorem stepEffect_of_commitEvent {s t : State} {rest : List Event}
    (hnext : s.inputs = [] ∨ ∃ es, s.inputs = .commit :: es)
    (h : commitEvent { s with inputs := rest } = .next t) : StepEffect s t := by
  rcases commitEvent_cases h with ⟨_, rfl⟩ | ⟨f, hf, rfl⟩
  · exact .unchanged rest s.response
  · exact .committed rest f ⟨hf, hnext⟩

/-- A write to an admitted offset other than CMD's stores in that offset's register, or meets a reserved slot. -/
theorem stepEffect_of_hostWrite {s : State} {rest : List Event} {off : BitVec 8} {v : Word}
    (hin : s.inputs = .hostWrite off 4 v :: rest) (hrst : s.rst = false) (ha : Admitted off 4) :
    StepEffect s (State.writeReg { s with inputs := rest, response := .written } (regAt off) v) := by
  by_cases hres : regAt off = .reserved
  · rw [hres]
    exact .unchanged rest .written
  · have hoff : off = (regAt off).offset := regAt_offset ha hres
    exact .written rest (regAt off) v ⟨hrst, rest, hoff ▸ hin⟩

/-- A CMD write is accepted or rejected. -/
theorem stepEffect_of_issue {s t : State} {rest : List Event} {c : Word} (hw : Writing s .cmd c)
    (h : issue c { s with inputs := rest, response := .written } = .next t) : StepEffect s t := by
  rcases issue_cases h with ⟨hidle, i, f, _, hkeyed, rfl, rfl⟩ | ⟨code, hcode, rfl⟩
  · exact .accepted rest c f hw hidle hkeyed
  · exact .rejected rest c code hw hcode

/-- Every step has one of the effects. -/
theorem step_effect {s t : State} (h : step s = .next t) : StepEffect s t := by
  rcases step_cases h with ⟨hin, hcommit⟩ | ⟨e, rest, hin, he⟩
  · exact stepEffect_of_commitEvent (rest := s.inputs) (.inl hin) hcommit
  · rcases perform_cases he with ⟨_, r, rfl⟩ | ⟨off, v, rfl, hrst, ha, _, rfl⟩ | ⟨off, v, rfl, hrst, _, hcmd, hissue⟩ |
      ⟨rfl, hcommit⟩ | ⟨rfl, rfl⟩ | ⟨rfl, rfl⟩
    · exact .unchanged rest r
    · exact stepEffect_of_hostWrite hin hrst ha
    · exact stepEffect_of_issue ⟨hrst, rest, regAt_eq_cmd hcmd ▸ hin⟩ hissue
    · exact stepEffect_of_commitEvent (.inr ⟨rest, hin⟩) hcommit
    · exact .reset rest ⟨rest, hin⟩
    · exact .released rest

end Sys2Proof.Machine
end

section
/-! The invariant of the core: each of its five parts holds at reset and is kept by every effect of a step. -/

namespace Sys2Proof.Machine

/-- Settles O35: at reset ERR is clear, both engines are unkeyed with zero arrays, and SEQ is IDLE. -/
theorem resetStateSatisfiesInv : Obligations.ResetStateSatisfiesInv where
  errors := ⟨fun _ => rfl, fun _ => rfl⟩
  square := ⟨fun h => absurd h (by simp), fun _ => rfl⟩
  twofish := ⟨fun h => absurd h (by simp), fun _ => ⟨rfl, rfl⟩⟩
  flight := trivial
  resetHeld := fun h => absurd h (by simp)

theorem errorsAgree_statusW1C {s : State} (v : Word) (h : ErrorsAgree s) : ErrorsAgree (s.statusW1C v) := by
  unfold ErrorsAgree at h ⊢
  rw [State.statusW1C_err, State.statusW1C_errcode]
  cases v.getLsbD 2 <;> simp [h]

/-- A rejection keeps the code of a pending error, which is not NONE, and otherwise records its own (R266). -/
theorem errorsAgree_cmdError {s : State} {code : ErrCode} (hcode : code ≠ .none) (h : ErrorsAgree s) :
    ErrorsAgree (s.cmdError code) := by
  unfold ErrorsAgree at h ⊢
  cases herr : s.err <;> simp_all

theorem errorsAgree_of_stepEffect {s t : State} (ht : StepEffect s t) (h : ErrorsAgree s) : ErrorsAgree t := by
  cases ht with
  | unchanged | accepted | released => exact h
  | written rest r v =>
    cases r with
    | status => exact errorsAgree_statusW1C v h
    | _ => exact h
  | rejected rest c code _ hcode => exact errorsAgree_cmdError hcode h
  | committed rest f =>
    obtain ⟨_, herr, hcode, _⟩ := commitPart_frame f { s with inputs := rest }
    unfold ErrorsAgree at h ⊢
    rwa [State.finish_err, State.finish_errcode, herr, hcode]
  | reset => exact resetStateSatisfiesInv.errors

theorem squareLifecycle_of_eq {s t : State} (hsq : t.sq = s.sq) (hkeyed : t.sqKeyed = s.sqKeyed)
    (h : SquareLifecycle s) : SquareLifecycle t := by
  unfold SquareLifecycle at h ⊢
  rwa [hsq, hkeyed]

theorem twofishLifecycle_of_eq {s t : State} (htf : t.tf = s.tf) (hkeyed : t.tfKeyed = s.tfKeyed)
    (hklen : t.tfKlen = s.tfKlen) (h : TwofishLifecycle s) : TwofishLifecycle t := by
  unfold TwofishLifecycle at h ⊢
  rwa [htf, hkeyed, hklen]

/-- A commit leaves the Square engine as it is, loads it with its snapshot's schedule, or zeroes it (R238). -/
theorem squareLifecycle_commitPart {s : State} (f : Flight) (h : SquareLifecycle s) :
    SquareLifecycle (commitPart f s).finish := by
  cases f with
  | sqKey key => exact ⟨fun _ => ⟨key, rfl⟩, fun hk => absurd hk (by simp [commitPart])⟩
  | sqClear | clearAll => exact ⟨fun hk => absurd hk (by simp [commitPart]), fun _ => rfl⟩
  | _ => exact h

/-- A commit leaves the Twofish engine as it is, loads it with its snapshot's schedule, or zeroes it (R238). -/
theorem twofishLifecycle_commitPart {s : State} (f : Flight) (h : TwofishLifecycle s) :
    TwofishLifecycle (commitPart f s).finish := by
  cases f with
  | tfKey key => exact ⟨fun _ => ⟨key, rfl, rfl⟩, fun hk => absurd hk (by simp [commitPart])⟩
  | tfClear | clearAll => exact ⟨fun hk => absurd hk (by simp [commitPart]), fun _ => ⟨rfl, rfl⟩⟩
  | _ => exact h

theorem squareLifecycle_of_stepEffect {s t : State} (ht : StepEffect s t) (h : SquareLifecycle s) :
    SquareLifecycle t := by
  cases ht with
  | unchanged | rejected | accepted | released => exact h
  | written rest r v =>
    obtain ⟨_, hsq, hkeyed, _⟩ := writeReg_frame { s with inputs := rest, response := .written } r v
    exact squareLifecycle_of_eq hsq hkeyed h
  | committed rest f => exact squareLifecycle_commitPart f h
  | reset => exact resetStateSatisfiesInv.square

theorem twofishLifecycle_of_stepEffect {s t : State} (ht : StepEffect s t) (h : TwofishLifecycle s) :
    TwofishLifecycle t := by
  cases ht with
  | unchanged | rejected | accepted | released => exact h
  | written rest r v =>
    obtain ⟨_, _, _, htf, hkeyed, hklen, _⟩ := writeReg_frame { s with inputs := rest, response := .written } r v
    exact twofishLifecycle_of_eq htf hkeyed hklen h
  | committed rest f => exact twofishLifecycle_commitPart f h
  | reset => exact resetStateSatisfiesInv.twofish

/-- A register write may clear DONE but never sets it (R32). -/
theorem writeReg_done_of_not_done {s : State} (r : Reg) (v : Word) (h : s.done = false) :
    (s.writeReg r v).done = false := by
  cases r with
  | status => simp [State.writeReg, h]
  | _ => exact h

/-- What `FlightAccepted` reads: SEQ, the two KEYED flags, and DONE, which may only have been cleared. -/
theorem flightAccepted_of_eq {s t : State} (hseq : t.seq = s.seq) (hsq : t.sqKeyed = s.sqKeyed)
    (htf : t.tfKeyed = s.tfKeyed) (hdone : s.done = false → t.done = false) (h : FlightAccepted s) :
    FlightAccepted t := by
  unfold FlightAccepted at h ⊢
  rw [hseq]
  cases hs : s.seq with
  | idle => trivial
  | busy f =>
    rw [hs] at h
    obtain ⟨hd, hf⟩ := h
    refine ⟨hdone hd, ?_⟩
    rwa [hsq, htf]

/-- An issue clears DONE, and its cipher command was accepted because its engine is keyed (R231, R264). -/
theorem flightAccepted_accept {s : State} {f : Flight} (hkeyed : ¬ Unkeyed f.instr s) : FlightAccepted (s.accept f) := by
  refine ⟨rfl, ?_⟩
  cases f with
  | sqEnc | sqDec | tfEnc | tfDec => simpa [Unkeyed, Flight.instr] using hkeyed
  | _ => trivial

theorem flightAccepted_of_seq_idle {s : State} (h : s.seq = .idle) : FlightAccepted s := by
  simp [FlightAccepted, h]

theorem flightAccepted_of_stepEffect {s t : State} (ht : StepEffect s t) (h : FlightAccepted s) : FlightAccepted t := by
  cases ht with
  | unchanged | rejected | released => exact h
  | written rest r v =>
    obtain ⟨hseq, _, hsq, _, htf, _⟩ := writeReg_frame { s with inputs := rest, response := .written } r v
    exact flightAccepted_of_eq hseq hsq htf (writeReg_done_of_not_done r v) h
  | accepted rest c f _ _ hkeyed => exact flightAccepted_accept hkeyed
  | committed => exact flightAccepted_of_seq_idle rfl
  | reset => exact flightAccepted_of_seq_idle rfl

theorem resetHeld_of_not_rst {s : State} (h : s.rst = false) : ResetHeld s :=
  fun hheld => absurd (h.symm.trans hheld) (by simp)

/-- A held reset leaves no command in flight to commit (R290). -/
theorem rst_eq_false_of_busy {s : State} {f : Flight} (h : ResetHeld s) (hf : s.seq = .busy f) : s.rst = false := by
  cases hr : s.rst with
  | false => rfl
  | true =>
    have hseq : s.seq = .idle := by rw [h hr]; rfl
    rw [hseq] at hf
    cases hf

/-- Under a held reset only the answer and the order can change: a write needs RST released, and there is no command. -/
theorem resetHeld_of_stepEffect {s t : State} (ht : StepEffect s t) (h : ResetHeld s) : ResetHeld t := by
  cases ht with
  | unchanged rest r =>
    exact fun hr => congrArg (fun u : State => { u with inputs := rest, response := r }) (h hr)
  | written rest r v hw =>
    obtain ⟨_, _, _, _, _, _, _, hrst, _⟩ := writeReg_frame { s with inputs := rest, response := .written } r v
    exact resetHeld_of_not_rst (hrst.trans hw.1)
  | rejected rest c code hw | accepted rest c f hw => exact resetHeld_of_not_rst hw.1
  | committed rest f hc =>
    obtain ⟨_, _, _, hrst, _⟩ := commitPart_frame f { s with inputs := rest }
    exact resetHeld_of_not_rst (hrst.trans (rst_eq_false_of_busy (s := s) h hc.1))
  | reset => exact fun _ => rfl
  | released => exact resetHeld_of_not_rst rfl

/-- Settles O36: each part of the invariant is kept by every effect of a step. -/
theorem everyStepKeepsInv : Obligations.EveryStepKeepsInv := fun _ _ hinv hstep =>
  have ht := step_effect hstep
  { errors := errorsAgree_of_stepEffect ht hinv.errors
    square := squareLifecycle_of_stepEffect ht hinv.square
    twofish := twofishLifecycle_of_stepEffect ht hinv.twofish
    flight := flightAccepted_of_stepEffect ht hinv.flight
    resetHeld := resetHeld_of_stepEffect ht hinv.resetHeld }

end Sys2Proof.Machine
end

section
/-! Who changes what (spec/10_state.md R23-R36): the rules of ERR and DONE, and the frames of the schedules and of the data
registers, each read off the effects of a step. -/

namespace Sys2Proof.Machine

/-! ### ERR and DONE (R32, R33) -/

/-- An issue that leaves SEQ as it was rejected the word, and one that changes SEQ accepted it (R231). -/
theorem issue_seq_cases {c : Word} {s t : State} (h : issue c s = .next t) :
    (t.seq ≠ s.seq ∧ ∃ f, t = s.accept f) ∨ (t.seq = s.seq ∧ ∃ code, t = s.cmdError code) := by
  rcases issue_cases h with ⟨hidle, _, f, _, _, _, rfl⟩ | ⟨code, _, rfl⟩
  · exact .inl ⟨by simp [hidle], f, rfl⟩
  · exact .inr ⟨rfl, code, rfl⟩

theorem issue_err {c : Word} {s t : State} (h : issue c s = .next t) :
    (t.seq = s.seq → t.err = true) ∧ (t.seq ≠ s.seq → t.err = s.err) := by
  rcases issue_seq_cases h with ⟨hseq, f, rfl⟩ | ⟨hseq, code, rfl⟩
  · exact ⟨fun heq => absurd heq hseq, fun _ => rfl⟩
  · exact ⟨fun _ => rfl, fun hne => absurd hseq hne⟩

/-- A register write changes ERR or ERRCODE only through bit 2 of STATUS (R68, R69). -/
theorem writeReg_errors (s : State) (r : Reg) (v : Word) :
    ((s.writeReg r v).err = s.err ∧ (s.writeReg r v).errcode = s.errcode) ∨ (r = .status ∧ v.getLsbD 2 = true) := by
  cases r with
  | status =>
    cases hv : v.getLsbD 2 with
    | true => exact .inr ⟨rfl, rfl⟩
    | false => exact .inl ⟨by rw [State.writeReg, State.statusW1C_err, hv]; simp,
        by rw [State.writeReg, State.statusW1C_errcode, hv]; simp⟩
  | _ => exact .inl ⟨rfl, rfl⟩

theorem statusW1C_clears_errors (s : State) {v : Word} (hv : v.getLsbD 2 = true) :
    (s.statusW1C v).err = false ∧ (s.statusW1C v).errcode = .none := by
  rw [State.statusW1C_err, State.statusW1C_errcode, hv]
  simp

/-- Settles O22: of the effects of a step only a rejection, a STATUS write and a reset touch ERR and ERRCODE. -/
theorem onlyRejectionsSetTheErrorFlag : Obligations.OnlyRejectionsSetTheErrorFlag := by
  refine ⟨fun s t c => issue_err, fun s v => statusW1C_clears_errors s, fun s => ⟨rfl, rfl⟩, fun s t hstep hne => ?_⟩
  have hsame : ¬ (t.err = s.err ∧ t.errcode = s.errcode) := fun ⟨herr, hcode⟩ => hne.elim (· herr) (· hcode)
  cases step_effect hstep with
  | unchanged | accepted | released => exact absurd ⟨rfl, rfl⟩ hsame
  | written rest r v hw =>
    rcases writeReg_errors { s with inputs := rest, response := .written } r v with heq | ⟨rfl, hv⟩
    · exact absurd heq hsame
    · exact .inr (.inl ⟨v, hw, hv, statusW1C_clears_errors _ hv⟩)
  | rejected rest c code hw => exact .inl ⟨c, hw, rfl, rfl, rfl⟩
  | committed rest f =>
    obtain ⟨_, herr, hcode, _⟩ := commitPart_frame f { s with inputs := rest }
    exact absurd ⟨herr, hcode⟩ hsame
  | reset rest hr => exact .inr (.inr ⟨hr, rfl, rfl⟩)

theorem commitEvent_sets_done {s : State} {f : Flight} (hf : s.seq = .busy f) :
    ∃ t, commitEvent s = .next t ∧ t.done = true := by
  obtain ⟨t, ht⟩ := commitEvent_answers s
  rcases commitEvent_cases ht with ⟨hidle, _⟩ | ⟨g, _, rfl⟩
  · exact absurd (hidle.symm.trans hf) (by simp)
  · exact ⟨_, ht, rfl⟩

/-- An issue clears DONE when it accepts the word, and keeps it when it rejects the word (R32). -/
theorem issue_done {c : Word} {s t : State} (h : issue c s = .next t) :
    (t.seq ≠ s.seq → t.done = false) ∧ (t.seq = s.seq → t.done = s.done) := by
  rcases issue_seq_cases h with ⟨hseq, f, rfl⟩ | ⟨hseq, code, rfl⟩
  · exact ⟨fun _ => rfl, fun heq => absurd heq hseq⟩
  · exact ⟨fun hne => absurd hseq hne, fun _ => rfl⟩

/-- Settles O23: a commit sets DONE; an accepted issue, bit 1 of a STATUS write and a reset clear it. -/
theorem doneMarksTheLastCommit : Obligations.DoneMarksTheLastCommit := by
  refine ⟨fun s f => commitEvent_sets_done, fun s t c hidle hissue hbusy => ?_, fun s v hv => ?_, fun s => rfl,
    fun s t c hissue => (issue_done hissue).2⟩
  · exact (issue_done hissue).1 (hidle ▸ hbusy)
  · rw [State.statusW1C_done, hv]
    simp

/-! ### The schedules (R34-R36, R238) -/

/-- Only SQ_KEY, SQ_CLEAR and CLEAR_ALL commit to the Square engine. -/
theorem commitPart_square (f : Flight) (s : State) :
    ((commitPart f s).sq = s.sq ∧ (commitPart f s).sqKeyed = s.sqKeyed) ∨
    f = .sqClear ∨ f = .clearAll ∨ ∃ k, f = .sqKey k := by
  cases f with
  | sqClear | clearAll | sqKey => simp
  | _ => exact .inl ⟨rfl, rfl⟩

/-- Only TF_KEY, TF_CLEAR and CLEAR_ALL commit to the Twofish engine. -/
theorem commitPart_twofish (f : Flight) (s : State) :
    ((commitPart f s).tf = s.tf ∧ (commitPart f s).tfKeyed = s.tfKeyed ∧ (commitPart f s).tfKlen = s.tfKlen) ∨
    f = .tfClear ∨ f = .clearAll ∨ ∃ k, f = .tfKey k := by
  cases f with
  | tfClear | clearAll | tfKey => simp
  | _ => exact .inl ⟨rfl, rfl, rfl⟩

/-- A step changes the Square schedule or SQ_KEYED only by a commit of the engine's own commands or CLEAR_ALL, or by a
reset. -/
theorem StepEffect.square_frame {s t : State} (ht : StepEffect s t) :
    (t.sq = s.sq ∧ t.sqKeyed = s.sqKeyed) ∨
    Resetting s ∨ Committing s .sqClear ∨ Committing s .clearAll ∨ ∃ k, Committing s (.sqKey k) := by
  cases ht with
  | unchanged | rejected | accepted | released => exact .inl ⟨rfl, rfl⟩
  | written rest r v =>
    obtain ⟨_, hsq, hkeyed, _⟩ := writeReg_frame { s with inputs := rest, response := .written } r v
    exact .inl ⟨hsq, hkeyed⟩
  | committed rest f hc =>
    rcases commitPart_square f { s with inputs := rest } with heq | rfl | rfl | ⟨k, rfl⟩
    · exact .inl heq
    · exact .inr (.inr (.inl hc))
    · exact .inr (.inr (.inr (.inl hc)))
    · exact .inr (.inr (.inr (.inr ⟨k, hc⟩)))
  | reset rest hr => exact .inr (.inl hr)

/-- A step changes the Twofish schedule, TF_KEYED or TF_KLEN only by a commit of the engine's own commands or CLEAR_ALL,
or by a reset. -/
theorem StepEffect.twofish_frame {s t : State} (ht : StepEffect s t) :
    (t.tf = s.tf ∧ t.tfKeyed = s.tfKeyed ∧ t.tfKlen = s.tfKlen) ∨
    Resetting s ∨ Committing s .tfClear ∨ Committing s .clearAll ∨ ∃ k, Committing s (.tfKey k) := by
  cases ht with
  | unchanged | rejected | accepted | released => exact .inl ⟨rfl, rfl, rfl⟩
  | written rest r v =>
    obtain ⟨_, _, _, htf, hkeyed, hklen, _⟩ := writeReg_frame { s with inputs := rest, response := .written } r v
    exact .inl ⟨htf, hkeyed, hklen⟩
  | committed rest f hc =>
    rcases commitPart_twofish f { s with inputs := rest } with heq | rfl | rfl | ⟨k, rfl⟩
    · exact .inl heq
    · exact .inr (.inr (.inl hc))
    · exact .inr (.inr (.inr (.inl hc)))
    · exact .inr (.inr (.inr (.inr ⟨k, hc⟩)))
  | reset rest hr => exact .inr (.inl hr)

/-- Settles O26: the frames of the two engines over every effect of a step. -/
theorem onlyKeyAndClearCommandsChangeASchedule : Obligations.OnlyKeyAndClearCommandsChangeASchedule := by
  intro s t hstep
  have ht := step_effect hstep
  refine ⟨fun hne => ht.square_frame.resolve_left ?_, fun hne => ht.twofish_frame.resolve_left ?_⟩
  · exact fun ⟨hsq, hkeyed⟩ => hne.elim (· hsq) (· hkeyed)
  · exact fun ⟨htf, hkeyed, hklen⟩ => hne.elim (· htf) (·.elim (· hkeyed) (· hklen))

/-! ### IE and the data registers (R23-R29) -/

/-- The one field that a register write can store in, besides the flags of STATUS (R68). -/
theorem writeReg_data (s : State) (r : Reg) (v : Word) :
    ((s.writeReg r v).ie = s.ie ∨ r = .ctrl) ∧
    ((s.writeReg r v).key = s.key ∨ ∃ i, r = .key i) ∧
    ((s.writeReg r v).din = s.din ∨ ∃ i, r = .din i) ∧
    ((s.writeReg r v).dig = s.dig ∨ ∃ i, r = .dig i) ∧
    ((s.writeReg r v).msg = s.msg ∨ ∃ i, r = .msg i) := by
  cases r <;> simp [State.writeReg]

/-- What a commit writes among the data registers (R234): DOUT by a cipher command, DIG by a hash command, and all of them
by CLEAR_ALL. -/
theorem commitPart_data (f : Flight) (s : State) :
    ((commitPart f s).key = s.key ∧ (commitPart f s).din = s.din ∧ (commitPart f s).msg = s.msg ∨ f = .clearAll) ∧
    ((commitPart f s).dout = s.dout ∨ f = .clearAll ∨
      ∃ d, f = .sqEnc d ∨ f = .sqDec d ∨ f = .tfEnc d ∨ f = .tfDec d) ∧
    ((commitPart f s).dig = s.dig ∨ f = .clearAll ∨ (∃ h m, f = .sha1Comp h m) ∨ ∃ h m, f = .sha256Comp h m) := by
  cases f <;> simp [commitPart]

/-- Settles O27: per effect of a step, the register it stores in, if any. -/
theorem onlyTheNamedEventsWriteTheDataRegisters : Obligations.OnlyTheNamedEventsWriteTheDataRegisters := by
  intro s t hstep
  cases step_effect hstep with
  | unchanged | rejected | accepted | released => simp
  | reset rest hr => exact ⟨fun _ => .inl hr, fun _ => .inl hr, fun _ => .inl hr, fun _ => .inl hr, fun _ => .inl hr,
      fun _ => .inl hr⟩
  | written rest r v hw =>
    obtain ⟨hie, hkey, hdin, hdig, hmsg⟩ := writeReg_data { s with inputs := rest, response := .written } r v
    obtain ⟨_, _, _, _, _, _, hdout, _⟩ := writeReg_frame { s with inputs := rest, response := .written } r v
    refine ⟨fun hne => ?_, fun hne => ?_, fun hne => ?_, fun hne => absurd hdout hne, fun hne => ?_, fun hne => ?_⟩
    · obtain rfl := hie.resolve_left hne
      exact .inr ⟨v, hw⟩
    · obtain ⟨i, rfl⟩ := hkey.resolve_left hne
      exact .inr (.inr ⟨i, v, hw⟩)
    · obtain ⟨i, rfl⟩ := hdin.resolve_left hne
      exact .inr (.inr ⟨i, v, hw⟩)
    · obtain ⟨i, rfl⟩ := hdig.resolve_left hne
      exact .inr (.inr (.inl ⟨i, v, hw⟩))
    · obtain ⟨i, rfl⟩ := hmsg.resolve_left hne
      exact .inr (.inr ⟨i, v, hw⟩)
  | committed rest f hc =>
    obtain ⟨hhost, hdout, hdig⟩ := commitPart_data f { s with inputs := rest }
    obtain ⟨hie, _⟩ := commitPart_frame f { s with inputs := rest }
    refine ⟨fun hne => absurd hie hne, fun hne => ?_, fun hne => ?_, fun hne => ?_, fun hne => ?_, fun hne => ?_⟩
    · obtain rfl := hhost.resolve_left (fun ⟨hkey, _, _⟩ => hne hkey)
      exact .inr (.inl hc)
    · obtain rfl := hhost.resolve_left (fun ⟨_, hdin, _⟩ => hne hdin)
      exact .inr (.inl hc)
    · rcases hdout.resolve_left hne with rfl | ⟨d, hf⟩
      · exact .inr (.inl hc)
      · refine .inr (.inr ⟨d, ?_⟩)
        rcases hf with rfl | rfl | rfl | rfl <;> simp [hc]
    · rcases hdig.resolve_left hne with rfl | ⟨h, m, rfl⟩ | ⟨h, m, rfl⟩
      · exact .inr (.inl hc)
      · exact .inr (.inr (.inr (.inl ⟨h, m, hc⟩)))
      · exact .inr (.inr (.inr (.inr ⟨h, m, hc⟩)))
    · obtain rfl := hhost.resolve_left (fun ⟨_, _, hmsg⟩ => hne hmsg)
      exact .inr (.inl hc)

end Sys2Proof.Machine
end

section
/-! A host cannot read a secret back (spec/10_state.md R23, R47): two states that reads cannot tell apart answer every
access alike, and stay so. The one place where a hidden value could show is the decision to accept a command; it is made
from BUSY, the word and the KEYED flags, all of which STATUS shows. -/

namespace Sys2Proof.Machine

/-! ### What reads show is kept by every access's effect -/

theorem SameToReads.respond {s t : State} (h : SameToReads s t) (r : Response) :
    SameToReads (s.respond r) (t.respond r) := h

/-- Two accepted commands show the same, whatever their snapshots: BUSY is 1 and DONE 0 (R231). -/
theorem SameToReads.accept {s t : State} (h : SameToReads s t) (f g : Flight) :
    SameToReads (s.accept f) (t.accept g) := by
  obtain ⟨hie, _, herr, hcode, _, hrest⟩ := h
  exact ⟨hie, rfl, herr, hcode, rfl, hrest⟩

theorem SameToReads.cmdError {s t : State} (h : SameToReads s t) (code : ErrCode) :
    SameToReads (s.cmdError code) (t.cmdError code) := by
  obtain ⟨hie, hdone, herr, hcode, hrest⟩ := h
  refine ⟨hie, hdone, rfl, ?_, hrest⟩
  simp [herr, hcode]

theorem SameToReads.writeReg {s t : State} (h : SameToReads s t) (r : Reg) (v : Word) :
    SameToReads (s.writeReg r v) (t.writeReg r v) := by
  obtain ⟨hie, hdone, herr, hcode, hbusy, hsq, htf, hklen, hdin, hdout, hdig, hmsg⟩ := h
  cases r with
  | ctrl => exact ⟨rfl, hdone, herr, hcode, hbusy, hsq, htf, hklen, hdin, hdout, hdig, hmsg⟩
  | status =>
    refine ⟨hie, ?_, ?_, ?_, hbusy, hsq, htf, hklen, hdin, hdout, hdig, hmsg⟩ <;>
      simp [State.writeReg, hdone, herr, hcode]
  | din i => exact ⟨hie, hdone, herr, hcode, hbusy, hsq, htf, hklen, congrArg (·.set i v) hdin, hdout, hdig, hmsg⟩
  | dig i => exact ⟨hie, hdone, herr, hcode, hbusy, hsq, htf, hklen, hdin, hdout, congrArg (·.set i v) hdig, hmsg⟩
  | msg i => exact ⟨hie, hdone, herr, hcode, hbusy, hsq, htf, hklen, hdin, hdout, hdig, congrArg (·.set i v) hmsg⟩
  | cmd | id | key | dout | reserved =>
    exact ⟨hie, hdone, herr, hcode, hbusy, hsq, htf, hklen, hdin, hdout, hdig, hmsg⟩

/-! ### Reads -/

theorem SameToReads.ctrlWord {s t : State} (h : SameToReads s t) : s.ctrlWord = t.ctrlWord := by
  obtain ⟨hie, _⟩ := h
  simp [State.ctrlWord, hie]

theorem SameToReads.statusWord {s t : State} (h : SameToReads s t) : s.statusWord = t.statusWord := by
  obtain ⟨_, hdone, herr, hcode, hbusy, hsq, htf, hklen, _⟩ := h
  simp [State.statusWord, hdone, herr, hcode, hbusy, hsq, htf, hklen]

/-- No register's read value depends on KEY, a schedule or the snapshot (R67). -/
theorem SameToReads.readReg {s t : State} (h : SameToReads s t) (r : Reg) : s.readReg r = t.readReg r := by
  have ⟨_, _, _, _, _, _, _, _, hdin, hdout, hdig, hmsg⟩ := h
  cases r with
  | ctrl => exact h.ctrlWord
  | status => exact h.statusWord
  | din i => exact congrArg (·[i]) hdin
  | dout i => exact congrArg (·[i]) hdout
  | dig i => exact congrArg (·[i]) hdig
  | msg i => exact congrArg (·[i]) hmsg
  | cmd | id | key | reserved => rfl

theorem hostRead_event_alike {s t : State} (h : SameToReads s t) (hrst : s.rst = t.rst) (off : BitVec 8) (size : Nat) :
    ∃ r, perform (.hostRead off size) s = .next (s.respond r) ∧ perform (.hostRead off size) t = .next (t.respond r) := by
  have hread : hostRead s off = hostRead t off := h.readReg (regAt off)
  simp only [perform, ← hrst, ← hread]
  split
  · exact ⟨_, rfl, rfl⟩
  · split <;> exact ⟨_, rfl, rfl⟩

/-! ### CMD writes -/

/-- Two states decide a CMD write, or the command it names, alike: they reject it with one code, or both accept it. -/
def DecidedAlike (run : State → Host.Outcome State Fault Refusal) (s t : State) : Prop :=
  (∃ code, run s = .next (s.cmdError code) ∧ run t = .next (t.cmdError code)) ∨
  ∃ f g, run s = .next (s.accept f) ∧ run t = .next (t.accept g)

/-- TF_KEY's KLEN alone decides whether there is a key to snapshot (R94, R262). -/
theorem snapTwofishKey_alike (klen : BitVec 2) (s t : State) :
    (snapTwofishKey klen s = none ∧ snapTwofishKey klen t = none) ∨
    ∃ a b, snapTwofishKey klen s = some a ∧ snapTwofishKey klen t = some b := by
  unfold snapTwofishKey
  split
  · exact .inr ⟨_, _, rfl, rfl⟩
  · split
    · exact .inr ⟨_, _, rfl, rfl⟩
    · split
      · exact .inr ⟨_, _, rfl, rfl⟩
      · exact .inl ⟨rfl, rfl⟩

/-- A command's issue from IDLE is decided by the command and the KEYED flags (R231, R264). -/
theorem exec_idle_alike {s t : State} (hs : s.seq = .idle) (ht : t.seq = .idle) (hsq : s.sqKeyed = t.sqKeyed)
    (htf : s.tfKeyed = t.tfKeyed) (i : Instr) : DecidedAlike (exec i) s t := by
  unfold DecidedAlike
  cases i with
  | sqEnc | sqDec =>
    simp only [exec, execSqEnc, execSqDec, hs, ht, ← hsq]
    cases s.sqKeyed with
    | true => exact .inr ⟨_, _, rfl, rfl⟩
    | false => exact .inl ⟨_, rfl, rfl⟩
  | tfEnc | tfDec =>
    simp only [exec, execTfEnc, execTfDec, hs, ht, ← htf]
    cases s.tfKeyed with
    | true => exact .inr ⟨_, _, rfl, rfl⟩
    | false => exact .inl ⟨_, rfl, rfl⟩
  | tfKey klen =>
    simp only [exec, execTfKey, hs, ht]
    rcases snapTwofishKey_alike klen s t with ⟨hkey, hkey'⟩ | ⟨a, b, hkey, hkey'⟩
    · rw [hkey, hkey']
      exact .inl ⟨_, rfl, rfl⟩
    · rw [hkey, hkey']
      exact .inr ⟨_, _, rfl, rfl⟩
  | nop | sqKey | sqClear | tfClear | sha1Comp | sha256Comp | clearAll =>
    simp only [exec, execNop, execSqKey, execSqClear, execTfClear, execSha1Comp, execSha256Comp, execClearAll, hs, ht]
    exact .inr ⟨_, _, rfl, rfl⟩

theorem SameToReads.issue_alike {s t : State} (h : SameToReads s t) (c : Word) : DecidedAlike (issue c) s t := by
  obtain ⟨_, _, _, _, hbusy, hsq, htf, _⟩ := h
  unfold DecidedAlike issue
  cases hs : s.seq with
  | busy f =>
    cases ht : t.seq with
    | busy g => exact .inl ⟨_, rfl, rfl⟩
    | idle => simp [State.busy, hs, ht] at hbusy
  | idle =>
    cases ht : t.seq with
    | busy g => simp [State.busy, hs, ht] at hbusy
    | idle =>
      cases decode c with
      | illegal | badKlen => exact .inl ⟨_, rfl, rfl⟩
      | op i => exact exec_idle_alike hs ht hsq htf i

/-! ### Writes -/

/-- What a host has of two states that it cannot tell apart: the registers it reads, RST and the answer it got. -/
def SameToHost (s t : State) : Prop := s.response = t.response ∧ SameToReads s t ∧ s.rst = t.rst

theorem hostWrite_alike {s t : State} (h : SameToHost s t) (off : BitVec 8) (v : Word) :
    ∃ s' t', hostWrite off v s = .next s' ∧ hostWrite off v t = .next t' ∧ SameToHost s' t' := by
  obtain ⟨hresp, hsame, hrst⟩ := h
  unfold hostWrite
  split
  · rcases hsame.issue_alike v with ⟨code, hs, ht⟩ | ⟨f, g, hs, ht⟩
    · exact ⟨_, _, hs, ht, hresp, hsame.cmdError code, hrst⟩
    · exact ⟨_, _, hs, ht, hresp, hsame.accept f g, hrst⟩
  · obtain ⟨_, _, _, _, _, _, _, hrs, hss, _⟩ := writeReg_frame s (regAt off) v
    obtain ⟨_, _, _, _, _, _, _, hrt, hst, _⟩ := writeReg_frame t (regAt off) v
    exact ⟨_, _, rfl, rfl, hss.trans (hresp.trans hst.symm), hsame.writeReg (regAt off) v, hrs.trans (hrst.trans hrt.symm)⟩

theorem hostWrite_event_alike {s t : State} (h : SameToReads s t) (hrst : s.rst = t.rst) (off : BitVec 8) (size : Nat)
    (v : Word) : ∃ s' t', perform (.hostWrite off size v) s = .next s' ∧ perform (.hostWrite off size v) t = .next t' ∧
      SameToHost s' t' := by
  simp only [perform, ← hrst]
  split
  · exact ⟨_, _, rfl, rfl, rfl, h.respond _, hrst⟩
  · split
    · exact hostWrite_alike (s := s.respond .written) (t := t.respond .written) ⟨rfl, h.respond .written, hrst⟩ off v
    · exact ⟨_, _, rfl, rfl, rfl, h.respond _, hrst⟩

/-- Settles O17: reads show no hidden value, and writes are decided by none. -/
theorem readsRevealNoSecret : Obligations.ReadsRevealNoSecret := by
  intro s t hsame hrst off size
  obtain ⟨r, hs, ht⟩ := hostRead_event_alike hsame hrst off size
  exact ⟨r, hs, ht, hostWrite_event_alike hsame hrst off size⟩

end Sys2Proof.Machine
end

section
/-! The register window, the STATUS word, the interrupt line and the reset values (spec/10_state.md R22, R38, R45, R48). -/

namespace Sys2Proof.Machine

/-! ### The STATUS word (R38) -/

/-- Bit `i` of STATUS, field by field from BUSY up; past ERRCODE's four bits every bit is 0. -/
theorem statusWord_getLsbD (s : State) (i : Nat) : s.statusWord.getLsbD i =
    if i = 0 then s.busy
    else if i = 1 then s.done
    else if i = 2 then s.err
    else if i = 3 then s.sqKeyed
    else if i = 4 then s.tfKeyed
    else if i < 7 then s.tfKlen.getLsbD (i - 5)
    else if i = 7 then false
    else s.errcode.bits.getLsbD (i - 8) := by
  simp only [State.statusWord, BitVec.getLsbD_setWidth, BitVec.getLsbD_append, BitVec.getLsbD_ofBool]
  by_cases hlow : i < 8
  · interval_cases i <;> simp
  · obtain ⟨j, rfl⟩ : ∃ j, i = j + 8 := ⟨i - 8, by omega⟩
    by_cases hj : j < 4
    · have hword : j + 8 < 32 := by omega
      have hklen : ¬ j + 8 < 7 := by omega
      simp [hword, hklen]
    · have hcode : s.errcode.bits.getLsbD j = false := BitVec.getLsbD_of_ge _ _ (by omega)
      simp [hcode]

/-- TF_KLEN stands in bits 6:5. -/
theorem statusWord_klen (s : State) : s.statusWord.extractLsb' 5 2 = s.tfKlen := by
  apply BitVec.eq_of_getLsbD_eq
  intro i hi
  rw [BitVec.getLsbD_extractLsb', statusWord_getLsbD]
  interval_cases i <;> simp

/-- ERRCODE stands in bits 11:8. -/
theorem statusWord_errcode (s : State) : s.statusWord.extractLsb' 8 4 = s.errcode.bits := by
  apply BitVec.eq_of_getLsbD_eq
  intro i hi
  rw [BitVec.getLsbD_extractLsb', statusWord_getLsbD]
  interval_cases i <;> simp

theorem statusWord_high (s : State) : s.statusWord.extractLsb' 12 20 = 0 := by
  apply BitVec.eq_of_getLsbD_eq
  intro i hi
  have hklen : ¬ i + 12 < 7 := by omega
  rw [BitVec.getLsbD_extractLsb', statusWord_getLsbD, Nat.add_comm 12 i]
  simp [hklen]

/-- Settles O13: the single bits by `statusWord_getLsbD`, the fields by its corollaries. -/
theorem statusWordLayout : Obligations.StatusWordLayout := by
  intro s
  refine ⟨rfl, statusWord_getLsbD s 0, statusWord_getLsbD s 1, statusWord_getLsbD s 2, statusWord_getLsbD s 3,
    statusWord_getLsbD s 4, statusWord_klen s, statusWord_getLsbD s 7, statusWord_high s, ?_⟩
  rw [statusWord_errcode]
  cases s.errcode <;> rfl

/-! ### The register window (R22, R72) -/

theorem regAt_reg_offset (r : Reg) : regAt r.offset = r := by
  cases r with
  | key i | din i | dout i | dig i | msg i => revert i; decide
  | ctrl | cmd | status | id | reserved => decide

theorem reg_offset_aligned (r : Reg) : r.offset.toNat % 4 = 0 := by
  cases r with
  | key i | din i | dout i | dig i | msg i => revert i; decide
  | ctrl | cmd | status | id | reserved => decide

theorem busOffset_window (off : BitVec 8) : busOffset (Config.pBase + off.toNat) = some off := by
  have hlt : off.toNat < 256 := off.isLt
  rw [busOffset, if_pos (by omega), Nat.add_sub_cancel_left, BitVec.ofNat_toNat, BitVec.setWidth_eq]

theorem busOffset_outside {addr : Nat} (h : addr < Config.pBase ∨ Config.pBase + 256 ≤ addr) : busOffset addr = none :=
  if_neg (by omega)

/-- Settles O15: the map of offsets is inverted both ways, and an address has an event exactly in the window. -/
theorem windowMapIsFaithful : Obligations.WindowMapIsFaithful := by
  refine ⟨fun r => ⟨regAt_reg_offset r, reg_offset_aligned r⟩, fun off halign => ?_, busOffset_window,
    fun addr hout size v => ?_⟩
  · by_cases hres : regAt off = .reserved
    · exact .inr hres
    · exact .inl (regAt_offset ⟨rfl, halign⟩ hres).symm
  · simp [memRead, memWrite, busOffset_outside hout]

/-! ### The interrupt line (R45) -/

/-- Settles O16: each event's new IE, DONE and ERR in the line's equation. -/
theorem interruptLineFollowsItsCauses : Obligations.InterruptLineFollowsItsCauses := by
  intro s v code
  refine ⟨rfl, rfl, rfl, rfl, ?_, ?_, fun hdone herr => ?_, rfl, rfl⟩
  · simp [State.irq]
  · simp [State.irq]
  · rw [State.irq, State.statusW1C_done, State.statusW1C_err, hdone, herr]
    simp

/-! ### The reset state (R48) -/

theorem squareSchedule_zero_getElem (i : Fin 32) :
    SquareSchedule.zero.ek[i] = 0 ∧ SquareSchedule.zero.dk[i] = 0 ∧ SquareSchedule.zero.me[i] = 0 ∧
      SquareSchedule.zero.md[i] = 0 := by
  simp [SquareSchedule.zero]

theorem twofishSchedule_zero_rk (i : Fin 40) : TwofishSchedule.zero.rk[i] = 0 := by simp [TwofishSchedule.zero]

theorem twofishSchedule_zero_sb (j : Fin 4) (x : Fin 256) : TwofishSchedule.zero.sb[j][x] = 0 := by
  simp [TwofishSchedule.zero]

/-- Settles O33: the arrays of both engines are zero, and so is every register that R48 lists. -/
theorem resetStateIsAllZero : Obligations.ResetStateIsAllZero := by
  refine ⟨by decide, by decide, rfl, fun i => ?_, fun i => ?_, fun i => ?_, fun i => ?_, fun i => ?_,
    squareSchedule_zero_getElem, rfl, twofishSchedule_zero_rk, twofishSchedule_zero_sb, rfl, rfl, rfl, rfl⟩ <;> simp

end Sys2Proof.Machine
end

section
/-! Host accesses while a command is in flight (spec/20_memory.md R76): the commit's result is the snapshot's, because no
access reaches SEQ, a schedule or DOUT, and the commit reads nothing else. -/

namespace Sys2Proof.Machine

/-- The first event of an order is one step, whatever the number of steps after it. -/
theorem run_succ_order_cons {e : Event} {s t : State} (k : Nat) (es : List Event) (h : perform e s = .next t) :
    Sys2Proof.core.run (k + 1) { s with inputs := e :: es } = Sys2Proof.core.run k { t with inputs := es } :=
  have hperform : perform e { s with inputs := es } = .next { t with inputs := es } := perform_inputs es h
  have hstep : step { s with inputs := e :: es } = .next { t with inputs := es } := hperform
  run_succ_next hstep

/-- What the commit of the command in flight reads besides its snapshot, and what only a commit or a reset changes: SEQ
with the snapshot, both schedules and DOUT. -/
def SameToCommit (s t : State) : Prop := t.seq = s.seq ∧ t.sq = s.sq ∧ t.tf = s.tf ∧ t.dout = s.dout

theorem SameToCommit.trans {s t u : State} (hst : SameToCommit s t) (htu : SameToCommit t u) : SameToCommit s u := by
  obtain ⟨hseq, hsq, htf, hdout⟩ := hst
  obtain ⟨hseq', hsq', htf', hdout'⟩ := htu
  exact ⟨hseq'.trans hseq, hsq'.trans hsq, htf'.trans htf, hdout'.trans hdout⟩

/-- A CMD write is rejected while a command is in flight, and every other access leaves the command alone (R76, R263). -/
theorem perform_host_sameToCommit {e : Event} {s t : State} {f : Flight} (hf : s.seq = .busy f) (he : e.isHost = true)
    (h : perform e s = .next t) : SameToCommit s t := by
  rcases perform_cases h with ⟨_, r, rfl⟩ | ⟨off, v, _, _, _, _, rfl⟩ | ⟨off, v, _, _, _, _, hissue⟩ | ⟨rfl, _⟩ |
    ⟨rfl, _⟩ | ⟨rfl, _⟩
  · exact ⟨rfl, rfl, rfl, rfl⟩
  · obtain ⟨hseq, hsq, _, htf, _, _, hdout, _⟩ := writeReg_frame (s.respond .written) (regAt off) v
    exact ⟨hseq, hsq, htf, hdout⟩
  · rcases issue_cases hissue with ⟨hidle, _⟩ | ⟨code, _, rfl⟩
    · exact absurd (hf.symm.trans hidle) (by simp)
    · exact ⟨rfl, rfl, rfl, rfl⟩
  all_goals cases he

/-- A stretch of host accesses is one step each, and leaves the command in flight alone. -/
theorem run_host_order {s : State} {f : Flight} (hf : s.seq = .busy f) (es rest : List Event)
    (hhost : ∀ e ∈ es, e.isHost = true) :
    ∃ u, SameToCommit s u ∧ u.inputs = rest ∧
      ∀ k, Sys2Proof.core.run (es.length + k) { s with inputs := es ++ rest } = Sys2Proof.core.run k u := by
  induction es generalizing s with
  | nil =>
    refine ⟨{ s with inputs := rest }, ⟨rfl, rfl, rfl, rfl⟩, rfl, fun k => ?_⟩
    rw [List.length_nil, Nat.zero_add]
    rfl
  | cons e es ih =>
    obtain ⟨he, hes⟩ := List.forall_mem_cons.mp hhost
    obtain ⟨t, ht⟩ := perform_answers e s
    have hkeep : SameToCommit s t := perform_host_sameToCommit hf he ht
    obtain ⟨u, hu, hin, hrun⟩ := ih (hkeep.1.trans hf) hes
    refine ⟨u, hkeep.trans hu, hin, fun k => ?_⟩
    rw [List.length_cons, Nat.add_right_comm, List.cons_append, run_succ_order_cons _ _ ht, hrun]

/-- The step that commits the command in flight (R234, R236). -/
theorem run_one_commit {u : State} {f : Flight} (hf : u.seq = .busy f) (hin : u.inputs = [.commit]) :
    Sys2Proof.core.run 1 u = .next (commitPart f { u with inputs := [] }).finish := by
  have hstep : step u = commitEvent { u with inputs := [] } := by rw [step, nextEvent, hin]; rfl
  obtain ⟨t, ht⟩ := commitEvent_answers { u with inputs := [] }
  rw [run_succ_next (hstep.trans ht)]
  rcases commitEvent_cases ht with ⟨hidle, _⟩ | ⟨g, hg, rfl⟩
  · exact absurd (hf.symm.trans hidle) (by simp)
  · obtain rfl : f = g := Seq.busy.inj (hf.symm.trans hg)
    rfl

/-- Settles O28: the accesses leave what the commit reads as it was, and each commit is then its snapshot's. -/
theorem hostAccessesDoNotReachTheCommandInFlight : Obligations.HostAccessesDoNotReachTheCommandInFlight := by
  intro s f es hf hhost hin
  obtain ⟨u, ⟨hseq, hsq, htf, hdout⟩, hrest, hrun⟩ := run_host_order hf es [.commit] hhost
  rw [← hin] at hrun
  have hu : u.seq = .busy f := hseq.trans hf
  refine ⟨u, (commitPart f { u with inputs := [] }).finish, hrun 0, (hrun 1).trans (run_one_commit hu hrest), hu, hsq, htf,
    hdout, rfl, rfl, ?_⟩
  cases f with
  | nop => exact ⟨hdout, hsq, htf⟩
  | sqKey k => exact ⟨rfl, rfl, htf⟩
  | sqEnc d => exact congrArg (squareEncrypt · d) hsq
  | sqDec d => exact congrArg (squareDecrypt · d) hsq
  | sqClear => exact ⟨rfl, rfl, htf⟩
  | tfKey k => exact ⟨rfl, rfl, rfl, hsq⟩
  | tfEnc d => exact congrArg (twofishEncrypt · d) htf
  | tfDec d => exact congrArg (twofishDecrypt · d) htf
  | tfClear => exact ⟨rfl, rfl, rfl, hsq⟩
  | sha1Comp h m => exact ⟨rfl, rfl, rfl, rfl, rfl, rfl, rfl, rfl, rfl⟩
  | sha256Comp h m => exact ⟨rfl, rfl⟩
  | clearAll => exact ⟨rfl, rfl, rfl, rfl, rfl, rfl, rfl⟩

end Sys2Proof.Machine
end

section
/-! Accesses of the register window (spec/20_memory.md R62-R71): what the bus does with an access of each form, then what
each register answers and takes. -/

namespace Sys2Proof.Machine

/-! ### The bus: reads, writes and malformed accesses (R62, R290) -/

/-- What the bus answers to a read: nothing under a held reset, a bus error to a malformed one, else the register. -/
def State.readAnswer (s : State) (off : BitVec 8) (size : Nat) : Response :=
  if s.rst then .unanswered else if Admitted off size then .data (hostRead s off) else .busError off

/-- A read only records its answer (R64). -/
theorem perform_hostRead (s : State) (off : BitVec 8) (size : Nat) :
    perform (.hostRead off size) s = .next (s.respond (s.readAnswer off size)) := by
  simp only [perform, State.readAnswer]
  split
  · rfl
  · split <;> rfl

/-- No register shows the recorded answer. -/
theorem hostRead_respond (s : State) (r : Response) (off : BitVec 8) : hostRead (s.respond r) off = hostRead s off := by
  unfold hostRead
  cases regAt off <;> rfl

theorem readAnswer_respond (s : State) (r : Response) (off : BitVec 8) (size : Nat) :
    (s.respond r).readAnswer off size = s.readAnswer off size := by
  unfold State.readAnswer
  rw [hostRead_respond]
  rfl

/-- Settles O8: the answer to a read does not depend on the answer before it. -/
theorem readsChangeNoState : Obligations.ReadsChangeNoState := by
  intro s off size
  refine ⟨s.readAnswer off size, perform_hostRead s off size, ?_⟩
  have hagain := perform_hostRead (s.respond (s.readAnswer off size)) off size
  rwa [readAnswer_respond] at hagain

theorem perform_hostRead_admitted {s : State} {off : BitVec 8} (hrst : s.rst = false) (halign : off.toNat % 4 = 0) :
    perform (.hostRead off 4) s = .next (s.respond (.data (hostRead s off))) := by
  simp [perform, hrst, halign]

theorem perform_hostWrite_admitted {s : State} {off : BitVec 8} (v : Word) (hrst : s.rst = false)
    (halign : off.toNat % 4 = 0) : perform (.hostWrite off 4 v) s = hostWrite off v (s.respond .written) := by
  simp [perform, hrst, halign]

/-- Settles O11: an access is malformed exactly when it is not admitted. -/
theorem malformedAccessGetsABusError : Obligations.MalformedAccessGetsABusError := by
  refine ⟨fun s off size v hrst hbad => ?_, fun s off v hrst halign => ?_⟩
  · have hbad' : ¬ Admitted off size := not_and_or.mpr hbad
    constructor <;> simp [perform, hrst, hbad', State.respond]
  · exact ⟨perform_hostRead_admitted hrst halign, perform_hostWrite_admitted v hrst halign⟩

/-! ### The registers behind the offsets (R22, R67, R68) -/

theorem hostRead_offset (s : State) (r : Reg) : hostRead s r.offset = s.readReg r := by
  rw [hostRead, regAt_reg_offset]

theorem hostWrite_offset (s : State) {r : Reg} (v : Word) (hr : r ≠ .cmd) :
    hostWrite r.offset v s = .next (s.writeReg r v) := by
  rw [hostWrite, regAt_reg_offset, if_neg hr]

/-- A write to a register other than CMD, on the bus. -/
theorem perform_write_reg {s : State} {r : Reg} (v : Word) (hrst : s.rst = false) (hr : r ≠ .cmd) :
    perform (.hostWrite r.offset 4 v) s = .next ((s.respond .written).writeReg r v) := by
  rw [perform_hostWrite_admitted v hrst (reg_offset_aligned r), hostWrite_offset _ v hr]

/-- The reserved slots of the window (R66): 0x70-0x7C and 0xC0-0xFC. -/
def ReservedSlot (off : BitVec 8) : Prop :=
  off.toNat % 4 = 0 ∧ ((0x70 ≤ off.toNat ∧ off.toNat ≤ 0x7C) ∨ 0xC0 ≤ off.toNat)

theorem regAt_reservedSlot {off : BitVec 8} (h : ReservedSlot off) : regAt off = .reserved := by
  obtain ⟨_, hrange⟩ := h
  unfold regAt
  simp only
  rw [if_neg (by omega), if_neg (by omega), if_neg (by omega), if_neg (by omega), dif_neg (by omega), dif_neg (by omega),
    dif_neg (by omega), dif_neg (by omega), dif_neg (by omega)]

theorem reservedSlot_low (i : Fin 4) : ReservedSlot (BitVec.ofNat 8 (0x70 + 4 * i.val)) := by
  rw [ReservedSlot, BitVec.toNat_ofNat]
  omega

theorem reservedSlot_high (i : Fin 16) : ReservedSlot (BitVec.ofNat 8 (0xC0 + 4 * i.val)) := by
  rw [ReservedSlot, BitVec.toNat_ofNat]
  omega

theorem hostRead_reservedSlot (s : State) {off : BitVec 8} (h : ReservedSlot off) : hostRead s off = 0 := by
  rw [hostRead, regAt_reservedSlot h]
  rfl

theorem hostWrite_reservedSlot (s : State) {off : BitVec 8} (v : Word) (h : ReservedSlot off) :
    hostWrite off v s = .next s := by
  rw [hostWrite, regAt_reservedSlot h, if_neg (by simp)]
  rfl

theorem perform_write_reservedSlot {s : State} {off : BitVec 8} (v : Word) (hrst : s.rst = false) (h : ReservedSlot off) :
    perform (.hostWrite off 4 v) s = .next (s.respond .written) := by
  rw [perform_hostWrite_admitted v hrst h.1, hostWrite_reservedSlot _ v h]

theorem ctrlWord_eq (s : State) : s.ctrlWord = if s.ie then 1 else 0 := by
  unfold State.ctrlWord
  cases s.ie <;> rfl

/-- Settles O9: every offset of R67 is a register's or a reserved slot. -/
theorem readReturnsTheWindow : Obligations.ReadReturnsTheWindow := by
  intro s hrst
  refine ⟨fun off halign => perform_hostRead_admitted hrst halign, ?_, hostRead_offset s .cmd, hostRead_offset s .status,
    hostRead_offset s .id, fun i => hostRead_offset s (.key i), fun i => hostRead_offset s (.din i),
    fun i => hostRead_offset s (.dout i), fun i => hostRead_offset s (.dig i), fun i => hostRead_offset s (.msg i),
    fun i => hostRead_reservedSlot s (reservedSlot_low i), fun i => hostRead_reservedSlot s (reservedSlot_high i)⟩
  exact (hostRead_offset s .ctrl).trans (ctrlWord_eq s)

/-- Settles O10: every offset of R68 and R71 is CMD's, another register's or a reserved slot. -/
theorem writeChangesOnlyItsRegister : Obligations.WriteChangesOnlyItsRegister := by
  intro s v hrst
  have hreg {r : Reg} (hr : r ≠ .cmd) := perform_write_reg v hrst hr
  exact ⟨hreg (r := .ctrl) (by simp), perform_hostWrite_admitted v hrst rfl, hreg (r := .status) (by simp),
    hreg (r := .id) (by simp), fun i => hreg (r := .key i) (by simp), fun i => hreg (r := .din i) (by simp),
    fun i => hreg (r := .dout i) (by simp), fun i => hreg (r := .dig i) (by simp), fun i => hreg (r := .msg i) (by simp),
    fun i => perform_write_reservedSlot v hrst (reservedSlot_low i),
    fun i => perform_write_reservedSlot v hrst (reservedSlot_high i)⟩

/-! ### STATUS writes and reserved bits (R66, R69) -/

/-- A STATUS write, each flag's bit read as a condition. -/
theorem statusW1C_eq (s : State) (v : Word) : s.statusW1C v = { s with
    done := if v.getLsbD 1 then false else s.done
    err := if v.getLsbD 2 then false else s.err
    errcode := if v.getLsbD 2 then .none else s.errcode } := by
  unfold State.statusW1C
  cases v.getLsbD 1 <;> cases v.getLsbD 2 <;> simp

/-- Settles O12: the write reaches `State.statusW1C` with the answer recorded. -/
theorem statusWriteClearsDoneAndError : Obligations.StatusWriteClearsDoneAndError := by
  intro s v hrst
  rw [perform_write_reg v hrst (by simp), State.writeReg, statusW1C_eq]
  rfl

theorem ctrlWord_getLsbD_reserved (s : State) {b : Nat} (hb : 1 ≤ b) : s.ctrlWord.getLsbD b = false := by
  have hne : b ≠ 0 := by omega
  simp [State.ctrlWord, BitVec.getLsbD_ofBool, hne]

theorem statusWord_getLsbD_reserved (s : State) {b : Nat} (hb : b = 7 ∨ 12 ≤ b) : s.statusWord.getLsbD b = false := by
  rcases hb with rfl | hb
  · exact statusWord_getLsbD s 7
  · have hcode : s.errcode.bits.getLsbD (b - 8) = false := BitVec.getLsbD_of_ge _ _ (by omega)
    rw [statusWord_getLsbD, hcode]
    repeat rw [if_neg (by omega)]

/-- A CTRL write uses bit 0 only. -/
theorem writeReg_ctrl_mask (s : State) (v : Word) : s.writeReg .ctrl v = s.writeReg .ctrl (v &&& 0x1) := by
  have hbit : (v &&& 0x1).getLsbD 0 = v.getLsbD 0 := by simp
  simp only [State.writeReg, hbit]

/-- A STATUS write uses bits 1 and 2 only. -/
theorem writeReg_status_mask (s : State) (v : Word) : s.writeReg .status v = s.writeReg .status (v &&& 0x6) := by
  have hbit1 : (v &&& 0x6).getLsbD 1 = v.getLsbD 1 := by simp
  have hbit2 : (v &&& 0x6).getLsbD 2 = v.getLsbD 2 := by simp
  simp only [State.writeReg, State.statusW1C, hbit1, hbit2]

/-- Settles O14: the reserved slots by `regAt_reservedSlot`, the reserved bits of CTRL and STATUS by what reads show of
them and writes use. -/
theorem reservedSpaceReadsZeroAndIgnoresWrites : Obligations.ReservedSpaceReadsZeroAndIgnoresWrites := by
  intro s v
  refine ⟨fun off halign hrange => ?_, fun b hb _ => ?_, fun b hb => ?_, ?_, ?_⟩
  · have hslot : ReservedSlot off := ⟨halign, hrange⟩
    exact ⟨hostRead_reservedSlot s hslot, hostWrite_reservedSlot s v hslot⟩
  · rw [hostRead_offset]
    exact ctrlWord_getLsbD_reserved s hb
  · rw [hostRead_offset]
    exact statusWord_getLsbD_reserved s (hb.imp_right And.left)
  · rw [hostWrite_offset s v (by simp), hostWrite_offset s _ (by simp), writeReg_ctrl_mask]
  · rw [hostWrite_offset s v (by simp), hostWrite_offset s _ (by simp), writeReg_status_mask]

end Sys2Proof.Machine
end

section
/-! The decoder and the encoder (spec/30_encoding.md R90-R98): a word is its three fields, and every pair of OP and KLEN is
an operation's, TF_KEY's unsupported one, or illegal. What a CMD write then does is decided by what the decoder answers. -/

namespace Sys2Proof

/-! ### A word is its fields (R90) -/

theorem rsvdField_append (r : BitVec 22) (k : BitVec 2) (o : Byte) : rsvdField ((r ++ k) ++ o) = r := by
  rw [rsvdField, BitVec.extractLsb'_append_eq_of_le (by omega), BitVec.extractLsb'_append_eq_of_le (by omega)]
  exact BitVec.extractLsb'_eq_self

theorem klenField_append (r : BitVec 22) (k : BitVec 2) (o : Byte) : klenField ((r ++ k) ++ o) = k := by
  rw [klenField, BitVec.extractLsb'_append_eq_of_le (by omega), BitVec.extractLsb'_append_eq_of_add_le (by omega)]
  exact BitVec.extractLsb'_eq_self

theorem opField_append (r : BitVec 22) (k : BitVec 2) (o : Byte) : opField ((r ++ k) ++ o) = o := by
  rw [opField, BitVec.extractLsb'_append_eq_of_add_le (by omega)]
  exact BitVec.extractLsb'_eq_self

theorem fields_append (c : Word) : (rsvdField c ++ klenField c) ++ opField c = c :=
  calc
    (rsvdField c ++ klenField c) ++ opField c = c.extractLsb' 8 24 ++ opField c :=
      congrArg (· ++ opField c) (BitVec.extractLsb'_append_extractLsb'_eq_extractLsb' (start₁ := 8) (len₁ := 2) rfl)
    _ = c.extractLsb' 0 32 := BitVec.extractLsb'_append_extractLsb'_eq_extractLsb' (start₁ := 0) (len₁ := 8) rfl
    _ = c := BitVec.extractLsb'_eq_self

/-- The word of an operation: RSVD is 0, and OP and KLEN are the operation's own. -/
theorem encode_eq_iff {c : Word} {i : Instr} :
    encode i = c ↔ rsvdField c = 0#22 ∧ i.op = opField c ∧ i.klen = klenField c := by
  constructor
  · rintro rfl
    exact ⟨rsvdField_append _ _ _, (opField_append _ _ _).symm, (klenField_append _ _ _).symm⟩
  · rintro ⟨hrsvd, hop, hklen⟩
    rw [encode, hop, hklen, ← hrsvd, fields_append]

/-! ### What the decoder answers on OP and KLEN (R93-R97) -/

/-- The OP values that R93 does not assign (R97). -/
def UnassignedOp (op : Byte) : Prop :=
  (0x05 ≤ op.toNat ∧ op.toNat ≤ 0x10) ∨ (0x15 ≤ op.toNat ∧ op.toNat ≤ 0x20) ∨ (0x23 ≤ op.toNat ∧ op.toNat ≤ 0x3E) ∨
    0x40 ≤ op.toNat

/-- The pairs of OP and KLEN that are illegal with any RSVD (R95, R97). -/
def IllegalFields (op : Byte) (klen : BitVec 2) : Prop := UnassignedOp op ∨ (op ≠ 0x11 ∧ klen ≠ 0b00)

/-- The decoder's three answers, with the fields that lead to each. -/
inductive FieldsDecode (op : Byte) (klen : BitVec 2) : Decoded → Prop where
  /-- A well-formed operation, by its own OP and KLEN. -/
  | op (i : Instr) (hwf : i.WellFormed) (hop : i.op = op) (hklen : i.klen = klen) : FieldsDecode op klen (.op i)
  /-- TF_KEY with the length that the core does not support (R94). -/
  | badKlen (hop : op = 0x11) (hklen : klen = 0b11) : FieldsDecode op klen .badKlen
  /-- An OP that is not assigned, or a KLEN on an operation that has none. -/
  | illegal (h : IllegalFields op klen) : FieldsDecode op klen .illegal

/-- An operation without KLEN decodes exactly under KLEN 0b00 (R95). -/
theorem fieldsDecode_withoutKlen {op : Byte} {i : Instr} (hwf : i.WellFormed) (hop : op = i.op) (hne : i.op ≠ 0x11)
    (hzero : i.klen = 0b00) (klen : BitVec 2) : FieldsDecode op klen (withoutKlen klen i) := by
  unfold withoutKlen
  split
  · next hklen => exact .op i hwf hop.symm (hzero.trans hklen.symm)
  · next hklen => exact .illegal (.inr ⟨hop ▸ hne, hklen⟩)

/-- The answer of a test on the fields, by the answer of each branch. -/
theorem FieldsDecode.ite {op : Byte} {klen : BitVec 2} {p : Prop} [Decidable p] {d e : Decoded}
    (hpos : p → FieldsDecode op klen d) (hneg : ¬ p → FieldsDecode op klen e) :
    FieldsDecode op klen (if p then d else e) := iteInduction hpos hneg

theorem decodeFields_answers (op : Byte) (klen : BitVec 2) : FieldsDecode op klen (decodeFields op klen) := by
  unfold decodeFields
  refine .ite (fun h => fieldsDecode_withoutKlen (i := .nop) trivial h (by decide) rfl klen) fun h00 => ?_
  refine .ite (fun h => fieldsDecode_withoutKlen (i := .sqKey) trivial h (by decide) rfl klen) fun h01 => ?_
  refine .ite (fun h => fieldsDecode_withoutKlen (i := .sqEnc) trivial h (by decide) rfl klen) fun h02 => ?_
  refine .ite (fun h => fieldsDecode_withoutKlen (i := .sqDec) trivial h (by decide) rfl klen) fun h03 => ?_
  refine .ite (fun h => fieldsDecode_withoutKlen (i := .sqClear) trivial h (by decide) rfl klen) fun h04 => ?_
  refine .ite (fun h11 => .ite (.badKlen h11) fun hklen => .op (.tfKey klen) hklen h11.symm rfl) fun h11 => ?_
  refine .ite (fun h => fieldsDecode_withoutKlen (i := .tfEnc) trivial h (by decide) rfl klen) fun h12 => ?_
  refine .ite (fun h => fieldsDecode_withoutKlen (i := .tfDec) trivial h (by decide) rfl klen) fun h13 => ?_
  refine .ite (fun h => fieldsDecode_withoutKlen (i := .tfClear) trivial h (by decide) rfl klen) fun h14 => ?_
  refine .ite (fun h => fieldsDecode_withoutKlen (i := .sha1Comp) trivial h (by decide) rfl klen) fun h21 => ?_
  refine .ite (fun h => fieldsDecode_withoutKlen (i := .sha256Comp) trivial h (by decide) rfl klen) fun h22 => ?_
  refine .ite (fun h => fieldsDecode_withoutKlen (i := .clearAll) trivial h (by decide) rfl klen) fun h3f => ?_
  refine .illegal (.inl ?_)
  unfold UnassignedOp
  bv_omega

/-- A well-formed operation's own OP and KLEN decode to it. -/
theorem decodeFields_of_wellFormed {i : Instr} (hwf : i.WellFormed) : decodeFields i.op i.klen = .op i := by
  cases i with
  | tfKey klen => exact if_neg hwf
  | _ => rfl

theorem decodeFields_eq_op_iff {op : Byte} {klen : BitVec 2} {i : Instr} :
    decodeFields op klen = .op i ↔ i.WellFormed ∧ i.op = op ∧ i.klen = klen := by
  constructor
  · intro h
    have hanswer := decodeFields_answers op klen
    rw [h] at hanswer
    cases hanswer with
    | op _ hwf hop hklen => exact ⟨hwf, hop, hklen⟩
  · rintro ⟨hwf, rfl, rfl⟩
    exact decodeFields_of_wellFormed hwf

theorem not_illegalFields_instr (i : Instr) : ¬ IllegalFields i.op i.klen := by
  unfold IllegalFields UnassignedOp
  cases i with
  | tfKey klen => simp [Instr.op]
  | _ => decide

theorem decodeFields_eq_illegal_iff {op : Byte} {klen : BitVec 2} :
    decodeFields op klen = .illegal ↔ IllegalFields op klen := by
  have hanswer := decodeFields_answers op klen
  constructor
  · intro h
    rw [h] at hanswer
    cases hanswer with
    | illegal hfields => exact hfields
  · intro hfields
    generalize decodeFields op klen = d at hanswer
    cases hanswer with
    | op i _ hop hklen =>
      subst hop hklen
      exact absurd hfields (not_illegalFields_instr i)
    | badKlen hop hklen =>
      subst hop hklen
      exact absurd hfields (not_illegalFields_instr (.tfKey 0b11))
    | illegal => rfl

/-! ### What the decoder answers on a word (R98) -/

theorem decode_eq_op_iff {c : Word} {i : Instr} :
    decode c = .op i ↔ rsvdField c = 0#22 ∧ decodeFields (opField c) (klenField c) = .op i := by
  unfold decode
  split <;> simp [*]

theorem decode_eq_illegal_iff {c : Word} :
    decode c = .illegal ↔ rsvdField c ≠ 0#22 ∨ decodeFields (opField c) (klenField c) = .illegal := by
  unfold decode
  split <;> simp [*]

/-- Settles O1: both sides say that RSVD is 0, that OP and KLEN are the operation's own, and that it is well-formed. -/
theorem decodeExactlyInvertsEncode : Obligations.DecodeExactlyInvertsEncode := by
  intro c i
  rw [decode_eq_op_iff, decodeFields_eq_op_iff, encode_eq_iff]
  exact and_left_comm

theorem decode_encode {i : Instr} (hwf : i.WellFormed) : decode (encode i) = .op i :=
  (decodeExactlyInvertsEncode (encode i) i).mpr ⟨hwf, rfl⟩

/-- Settles O2: the decoder's column of the table follows from the encoder's, because all its operations are well-formed. -/
theorem commandWordsOfTheTable : Obligations.CommandWordsOfTheTable :=
  ⟨by decide, decode_encode (i := .nop) trivial, decode_encode (i := .sqKey) trivial, decode_encode (i := .sqEnc) trivial,
    decode_encode (i := .sqDec) trivial, decode_encode (i := .sqClear) trivial,
    decode_encode (i := .tfKey 0b00) (by decide), decode_encode (i := .tfKey 0b01) (by decide),
    decode_encode (i := .tfKey 0b10) (by decide), decode_encode (i := .tfEnc) trivial, decode_encode (i := .tfDec) trivial,
    decode_encode (i := .tfClear) trivial, decode_encode (i := .sha1Comp) trivial, decode_encode (i := .sha256Comp) trivial,
    decode_encode (i := .clearAll) trivial⟩

end Sys2Proof

namespace Sys2Proof.Machine

/-! ### A CMD write with SEQ IDLE (R231) -/

theorem issue_of_decode_illegal {c : Word} {s : State} (hidle : s.seq = .idle) (hdecode : decode c = .illegal) :
    issue c s = .next (s.cmdError .illegalCmd) := by
  simp only [issue, hidle, hdecode]

theorem issue_of_decode_op {c : Word} {i : Instr} {s : State} (hidle : s.seq = .idle) (hdecode : decode c = .op i) :
    issue c s = exec i s := by
  simp only [issue, hidle, hdecode]

/-- A write to CMD on the bus is the issue of its word (R68). -/
theorem perform_write_cmd {s : State} (c : Word) (hrst : s.rst = false) :
    perform (.hostWrite Reg.cmd.offset 4 c) s = issue c (s.respond .written) := by
  rw [perform_hostWrite_admitted c hrst (reg_offset_aligned .cmd), hostWrite, regAt_reg_offset, if_pos rfl]

/-- Settles O3: a word is illegal by its RSVD or by its OP and KLEN, and its issue is the rejection. -/
theorem illegalWordsAreRejected : Obligations.IllegalWordsAreRejected := fun _ =>
  ⟨decode_eq_illegal_iff.trans (or_congr_right decodeFields_eq_illegal_iff), fun _ => issue_of_decode_illegal⟩

/-- Settles O5: the event is the issue of the word, and SEQ is IDLE. -/
theorem stepRunsTheDecodedCommand : Obligations.StepRunsTheDecodedCommand := by
  intro s c i rest hin hrst hidle hdecode
  have hstep : step s = perform (.hostWrite Reg.cmd.offset 4 c) { s with inputs := rest } := by rw [step, nextEvent, hin]
  rw [hstep, perform_write_cmd (s := { s with inputs := rest }) c hrst,
    issue_of_decode_op (s := State.respond { s with inputs := rest } .written) hidle hdecode]
  rfl

end Sys2Proof.Machine
end

section
/-! EXEC from an idle core (spec/30_encoding.md R100, spec/70_reset_and_hazards.md R297): where a host in the middle of EXEC
stands, and that its turns and the commits keep it there or take it on. The statement is read off the last phase. -/

namespace Sys2Proof.Machine

/-! ### What the turns of EXEC do to the core -/

/-- WAIT's test of the STATUS word that it read (R100). -/
theorem wait_again_iff (w : Word) : (w &&& 0x6 == 0) = true ↔ w.getLsbD 1 = false ∧ w.getLsbD 2 = false := by
  rw [beq_iff_eq]
  constructor
  · intro h
    have hbit (j : Nat) : (w.getLsbD j && (0x6 : Word).getLsbD j) = false := by
      rw [← BitVec.getLsbD_and, h]
      exact BitVec.getLsbD_zero
    exact ⟨by simpa using hbit 1, by simpa using hbit 2⟩
  · rintro ⟨hbit1, hbit2⟩
    apply BitVec.eq_of_getLsbD_eq
    intro j hj
    have hmask : j = 1 ∨ j = 2 ∨ (0x6 : Word).getLsbD j = false := by revert j; decide
    rw [BitVec.getLsbD_and]
    rcases hmask with rfl | rfl | hzero
    · rw [hbit1]; rfl
    · rw [hbit2]; rfl
    · rw [hzero, Bool.and_false]
      exact BitVec.getLsbD_zero.symm

/-- EXEC's first write clears DONE and ERR (R69, R100). -/
theorem takeEvent_clearStatus {s : State} (hrst : s.rst = false) :
    takeEvent (.hostWrite Reg.status.offset 4 0x6) s = { (s.respond .written).statusW1C 0x6 with inputs := [] } :=
  takeEvent_eq (perform_write_reg 0x6 hrst (by simp))

/-- A CMD write to an idle core is accepted or rejected (R231). -/
theorem takeEvent_cmd {s : State} (c : Word) (hrst : s.rst = false) :
    (∃ f, takeEvent (.hostWrite Reg.cmd.offset 4 c) s = { (s.respond .written).accept f with inputs := [] }) ∨
    ∃ code, takeEvent (.hostWrite Reg.cmd.offset 4 c) s = { (s.respond .written).cmdError code with inputs := [] } := by
  obtain ⟨t, ht⟩ := issue_answers c (s.respond .written)
  rw [takeEvent_eq ((perform_write_cmd c hrst).trans ht)]
  rcases issue_cases ht with ⟨_, _, f, _, _, _, rfl⟩ | ⟨code, _, rfl⟩
  · exact .inl ⟨f, rfl⟩
  · exact .inr ⟨code, rfl⟩

/-- A commit that finds SEQ IDLE is skipped. -/
theorem takeEvent_commit_idle {s : State} (hidle : s.seq = .idle) : takeEvent .commit s = { s with inputs := [] } :=
  takeEvent_eq (by simp only [perform, commitEvent, hidle])

theorem takeEvent_commit_busy {s : State} {f : Flight} (hf : s.seq = .busy f) :
    takeEvent .commit s = { (commitPart f s).finish with inputs := [] } := by
  obtain ⟨t, ht⟩ := commitEvent_answers s
  rw [takeEvent_eq (e := .commit) ht]
  rcases commitEvent_cases ht with ⟨hidle, _⟩ | ⟨g, hg, rfl⟩
  · exact absurd (hidle.symm.trans hf) (by simp)
  · obtain rfl : f = g := Seq.busy.inj (hf.symm.trans hg)
    rfl

/-! ### The phases of EXEC -/

/-- Where a host stands in EXEC of `i` with the core it runs against, and how many of its two writes are still to come. -/
inductive ExecPhase (i : Instr) : Nat → HostRun Word → Prop where
  /-- Before the first write. -/
  | start {s : State} (hidle : s.seq = .idle) (hrst : s.rst = false) : ExecPhase i 2 ⟨s, hostExec i .done⟩
  /-- DONE and ERR are clear, and the command word is to be written. -/
  | cleared {s : State} (hidle : s.seq = .idle) (hrst : s.rst = false) (hdone : s.done = false) (herr : s.err = false) :
      ExecPhase i 1 ⟨s, lineCmd i (hostWait .done)⟩
  /-- The command was accepted and has not committed. -/
  | inFlight {s : State} {f : Flight} (hf : s.seq = .busy f) (hrst : s.rst = false) (hdone : s.done = false)
      (herr : s.err = false) : ExecPhase i 0 ⟨s, hostWait .done⟩
  /-- The command has committed or was rejected, and WAIT has not seen it yet. -/
  | settled {s : State} (hidle : s.seq = .idle) (hrst : s.rst = false) (hone : s.done ≠ s.err) :
      ExecPhase i 0 ⟨s, hostWait .done⟩
  /-- EXEC has ended, with the STATUS word that shows the outcome. -/
  | ended {s : State} {w : Word} (hidle : s.seq = .idle) (hdone : s.done = w.getLsbD 1) (herr : s.err = w.getLsbD 2)
      (hone : w.getLsbD 1 ≠ w.getLsbD 2) : ExecPhase i 0 ⟨s, .done w⟩

/-- A commit brings EXEC no write further, and there is nothing in flight after it. -/
theorem ExecPhase.commit {i : Instr} {n : Nat} {h : HostRun Word} (hphase : ExecPhase i n h) :
    ExecPhase i n (hostTurn h (.other .commit)) ∧ (hostTurn h (.other .commit)).core.seq = .idle := by
  simp only [hostTurn]
  cases hphase with
  | start hidle hrst =>
    rw [takeEvent_commit_idle hidle]
    exact ⟨.start hidle hrst, hidle⟩
  | cleared hidle hrst hdone herr =>
    rw [takeEvent_commit_idle hidle]
    exact ⟨.cleared hidle hrst hdone herr, hidle⟩
  | @inFlight s f hf hrst hdone herr =>
    obtain ⟨_, herr', _, hrst', _⟩ := commitPart_frame f s
    rw [takeEvent_commit_busy hf]
    refine ⟨.settled rfl (hrst'.trans hrst) ?_, rfl⟩
    simp [herr', herr]
  | settled hidle hrst hone =>
    rw [takeEvent_commit_idle hidle]
    exact ⟨.settled hidle hrst hone, hidle⟩
  | ended hidle hdone herr hone =>
    rw [takeEvent_commit_idle hidle]
    exact ⟨.ended hidle hdone herr hone, hidle⟩

/-- A poll of WAIT that shows DONE or ERR ends EXEC with the word read. -/
theorem hostTurn_wait_ends {s : State} (hrst : s.rst = false) (hone : s.done ≠ s.err) (bus : Word) :
    hostTurn ⟨s, hostWait .done⟩ (.host bus) =
      ⟨{ s with response := .data s.statusWord, inputs := [] }, .done s.statusWord⟩ := by
  have hstop : ¬ (s.statusWord &&& 0x6 == 0) = true := by
    rw [wait_again_iff, statusWord_getLsbD, statusWord_getLsbD]
    exact fun ⟨hdone, herr⟩ => hone (hdone.trans herr.symm)
  rw [hostTurn_wait hrst, if_neg hstop]

/-- A poll of WAIT that shows neither goes on polling. -/
theorem hostTurn_wait_again {s : State} (hrst : s.rst = false) (hdone : s.done = false) (herr : s.err = false)
    (bus : Word) : hostTurn (α := Word) ⟨s, hostWait .done⟩ (.host bus) =
      ⟨{ s with response := .data s.statusWord, inputs := [] }, hostWait .done⟩ := by
  have hagain : (s.statusWord &&& 0x6 == 0) = true := by
    rw [wait_again_iff, statusWord_getLsbD, statusWord_getLsbD]
    exact ⟨hdone, herr⟩
  rw [hostTurn_wait hrst, if_pos hagain]

/-- A turn of the host is its next write, or a poll. -/
theorem ExecPhase.host {i : Instr} {n : Nat} {h : HostRun Word} (hphase : ExecPhase i n h) (bus : Word) :
    ExecPhase i (n - 1) (hostTurn h (.host bus)) := by
  cases hphase with
  | @start s hidle hrst =>
    have hturn : hostTurn ⟨s, hostExec i .done⟩ (.host bus) =
        ⟨takeEvent (.hostWrite Reg.status.offset 4 0x6) s, lineCmd i (hostWait .done)⟩ := rfl
    rw [hturn, takeEvent_clearStatus hrst]
    exact .cleared hidle hrst (by simp) (by simp)
  | @cleared s hidle hrst hdone herr =>
    have hturn : hostTurn ⟨s, lineCmd i (hostWait .done)⟩ (.host bus) =
        ⟨takeEvent (.hostWrite Reg.cmd.offset 4 (encode i)) s, hostWait .done⟩ := rfl
    rw [hturn]
    rcases takeEvent_cmd (encode i) hrst with ⟨f, hcore⟩ | ⟨code, hcore⟩
    · rw [hcore]
      exact .inFlight rfl hrst rfl herr
    · rw [hcore]
      exact .settled hidle hrst (by simp [State.respond, hdone])
  | inFlight hf hrst hdone herr =>
    rw [hostTurn_wait_again hrst hdone herr]
    exact .inFlight hf hrst hdone herr
  | @settled s hidle hrst hone =>
    rw [hostTurn_wait_ends hrst hone]
    have hdone := statusWord_getLsbD s 1
    have herr := statusWord_getLsbD s 2
    exact .ended hidle hdone.symm herr.symm (by rw [hdone, herr]; exact hone)
  | ended hidle hdone herr hone => exact .ended hidle hdone herr hone

/-- With nothing in flight and both writes made, the host's next turn ends EXEC. -/
theorem ExecPhase.host_ends {i : Instr} {h : HostRun Word} (hphase : ExecPhase i 0 h) (hidle : h.core.seq = .idle)
    (bus : Word) : ∃ w, (hostTurn h (.host bus)).program = .done w := by
  cases hphase with
  | inFlight hf => exact absurd (hf.symm.trans hidle) (by simp)
  | settled _ hrst hone => exact ⟨_, congrArg HostRun.program (hostTurn_wait_ends hrst hone bus)⟩
  | ended => exact ⟨_, rfl⟩

/-! ### Runs of EXEC -/

/-- Every order of the host's turns and of commits keeps to the phases; each turn of the host takes one write off. -/
theorem ExecPhase.run {i : Instr} {n : Nat} {h : HostRun Word} (hphase : ExecPhase i n h) (turns : List HostTurn)
    (hcommit : ∀ e, HostTurn.other e ∈ turns → e = .commit) :
    ExecPhase i (n - turns.countP HostTurn.isHost) (hostRun h turns) := by
  induction turns generalizing n h with
  | nil => exact hphase
  | cons u us ih =>
    have hrest (e : Event) (he : HostTurn.other e ∈ us) : e = .commit := hcommit e (List.mem_cons_of_mem u he)
    cases u with
    | host bus =>
      rw [List.countP_cons_of_pos rfl, Nat.add_comm, ← Nat.sub_sub]
      exact ih (hphase.host bus) hrest
    | other e =>
      obtain rfl : e = .commit := hcommit e List.mem_cons_self
      rw [List.countP_cons_of_neg (by simp [HostTurn.isHost])]
      exact ih hphase.commit.1 hrest

/-- A program that has ended stays ended. -/
theorem hostRun_program_of_done {α : Type} {h : HostRun α} {a : α} (hdone : h.program = .done a) (turns : List HostTurn) :
    (hostRun h turns).program = .done a := by
  induction turns generalizing h with
  | nil => exact hdone
  | cons u us ih =>
    refine ih ?_
    cases u with
    | host bus => simp only [hostTurn, hdone]
    | other e => exact hdone

theorem ExecPhase.outcome {i : Instr} {n : Nat} {h : HostRun Word} {w : Word} (hphase : ExecPhase i n h)
    (hprogram : h.program = .done w) :
    h.core.seq = .idle ∧ h.core.done = w.getLsbD 1 ∧ h.core.err = w.getLsbD 2 ∧ w.getLsbD 1 ≠ w.getLsbD 2 := by
  cases hphase with
  | start | cleared | inFlight | settled => cases hprogram
  | ended hidle hdone herr hone =>
    cases hprogram
    exact ⟨hidle, hdone, herr, hone⟩

/-- Settles O30: every run keeps to the phases; two turns of the host make both writes, the commit leaves nothing in flight,
and the next turn ends EXEC. -/
theorem safeIssueEndsInDoneOrError : Obligations.SafeIssueEndsInDoneOrError := by
  intro s i turns hidle hrst hcommit
  have hstart : ExecPhase i 2 ⟨s, hostExec i .done⟩ := .start hidle hrst
  refine ⟨fun w => (hstart.run turns hcommit).outcome, ?_⟩
  rintro before bus after rfl hwrites
  have hbefore := hstart.run before fun e he => hcommit e (List.mem_append_left _ he)
  rw [Nat.sub_eq_zero_of_le hwrites] at hbefore
  obtain ⟨hphase, hcore⟩ := hbefore.commit
  obtain ⟨w, hw⟩ := hphase.host_ends hcore bus
  refine ⟨w, ?_⟩
  rw [hostRun, List.foldl_append]
  exact hostRun_program_of_done hw after

end Sys2Proof.Machine
end

section
/-! The byte/word codec (spec/40_codec.md R110-R113): a word is its four bytes, and `byteLe` counts them from the other end
than `byteBe`. -/

namespace Sys2Proof.Machine

theorem byteLe_eq_byteBe {n : Nat} (w : Word) (hn : n < 4) : byteLe n w = byteBe (3 - n) w := by
  rw [byteLe, byteBe, show 24 - 8 * (3 - n) = 8 * n by omega]

theorem loadBe32_byteBe (w : Word) : loadBe32 (byteBe 0 w) (byteBe 1 w) (byteBe 2 w) (byteBe 3 w) = w :=
  calc
    _ = w.extractLsb' 16 16 ++ byteBe 2 w ++ byteBe 3 w :=
      congrArg (· ++ byteBe 2 w ++ byteBe 3 w)
        (BitVec.extractLsb'_append_extractLsb'_eq_extractLsb' (start₁ := 16) (len₁ := 8) rfl)
    _ = w.extractLsb' 8 24 ++ byteBe 3 w :=
      congrArg (· ++ byteBe 3 w) (BitVec.extractLsb'_append_extractLsb'_eq_extractLsb' (start₁ := 8) (len₁ := 8) rfl)
    _ = w.extractLsb' 0 32 := BitVec.extractLsb'_append_extractLsb'_eq_extractLsb' (start₁ := 0) (len₁ := 8) rfl
    _ = w := BitVec.extractLsb'_eq_self

theorem loadLe32_byteLe (w : Word) : loadLe32 (byteLe 0 w) (byteLe 1 w) (byteLe 2 w) (byteLe 3 w) = w := by
  simpa [loadLe32, loadBe32, byteLe_eq_byteBe] using loadBe32_byteBe w

/-- The byte swap turns the one reading of four bytes into the other (R113). -/
theorem bswap32_loadBe32 (b0 b1 b2 b3 : Byte) : bswap32 (loadBe32 b0 b1 b2 b3) = loadLe32 b0 b1 b2 b3 := by
  simp [bswap32, loadLe32, byteLe_eq_byteBe]

theorem bswap32_bswap32 (w : Word) : bswap32 (bswap32 w) = w :=
  (bswap32_loadBe32 _ _ _ _).trans (loadLe32_byteLe w)

/-- Settles O49: the stores are lists of bytes by definition, and the loads put those bytes together again. -/
theorem codecLoadsInvertStores : Obligations.CodecLoadsInvertStores :=
  ⟨fun w => ⟨rfl, rfl, loadBe32_byteBe w, loadLe32_byteLe w, rfl, bswap32_bswap32 w⟩, bswap32_loadBe32,
    fun _ w hn => byteLe_eq_byteBe w hn, by decide, by decide⟩

end Sys2Proof.Machine
end

section
/-! Multiplication in GF(2^8) (spec/40_codec.md R118-R121). The loop of `gmul` builds a product from its first operand by
doubling and exclusive-or, so every map that keeps both keeps products (`map_gmul`). Multiplication by a byte is such a map,
which makes the product commutative and associative for every polynomial; the 256th power in the Square field is another,
and it fixes 1, hence every byte. -/

namespace Sys2Proof.Machine

/-! ### Doubling and the loop (R118) -/

theorem gdouble_eq (p : BitVec 9) (a : Byte) :
    gdouble p a = a <<< 1 ^^^ (if a.getLsbD 7 then p.setWidth 8 else 0) := by
  have hwide : (a.setWidth 9 <<< 1).setWidth 8 = a <<< 1 := by
    rw [BitVec.setWidth_shiftLeft_of_le (by decide), BitVec.setWidth_setWidth_of_le a (by decide), BitVec.setWidth_eq]
  have hcarry : (a.setWidth 9 <<< 1).getLsbD 8 = a.getLsbD 7 := by simp
  simp only [gdouble, hcarry, apply_ite (BitVec.setWidth 8), BitVec.setWidth_xor, hwide]
  split
  · rfl
  · exact (xor_zero _).symm

theorem gdouble_zero (p : BitVec 9) : gdouble p 0 = 0 := by simp [gdouble_eq]

theorem gdouble_xor (p : BitVec 9) (a b : Byte) : gdouble p (a ^^^ b) = gdouble p a ^^^ gdouble p b := by
  have hite (c d : Bool) (x : Byte) : (if c ^^ d then x else 0) = (if c then x else 0) ^^^ (if d then x else 0) := by
    cases c <;> cases d <;> simp
  rw [gdouble_eq, gdouble_eq, gdouble_eq, BitVec.shiftLeft_xor_distrib, BitVec.getLsbD_xor, hite]
  ac_rfl

theorem zero_gmulLoop (p : BitVec 9) (n : Nat) (b r : Byte) : gmulLoop p n 0 b r = r := by
  induction n generalizing b with
  | zero => rfl
  | succ n ih => rw [gmulLoop, gdouble_zero, xor_zero, ite_self, ih]

theorem gmulLoop_xor_left (p : BitVec 9) (n : Nat) (a a' b r r' : Byte) :
    gmulLoop p n (a ^^^ a') b (r ^^^ r') = gmulLoop p n a b r ^^^ gmulLoop p n a' b r' := by
  induction n generalizing a a' b r r' with
  | zero => rfl
  | succ n ih =>
    rw [gmulLoop, gmulLoop, gmulLoop, ← ih, gdouble_xor]
    split
    · congr 1; ac_rfl
    · rfl

/-- A map that keeps sums and doubling can be taken into the loop. -/
theorem map_gmulLoop {p : BitVec 9} {f : Byte → Byte} (hxor : ∀ a b, f (a ^^^ b) = f a ^^^ f b)
    (hdouble : ∀ a, f (gdouble p a) = gdouble p (f a)) (n : Nat) (a b r : Byte) :
    f (gmulLoop p n a b r) = gmulLoop p n (f a) b (f r) := by
  induction n generalizing a b r with
  | zero => rfl
  | succ n ih => rw [gmulLoop, gmulLoop, ih, hdouble, apply_ite f, hxor]

/-- Horner's form of the loop: the product by the upper bits, doubled, and the product by the lowest bit. -/
theorem gmulLoop_succ (p : BitVec 9) (n : Nat) (a b : Byte) :
    gmulLoop p (n + 1) a b 0 = (if b.getLsbD 0 then a else 0) ^^^ gdouble p (gmulLoop p n a (b >>> 1) 0) := by
  have hsplit := gmulLoop_xor_left p n 0 (gdouble p a) (b >>> 1) (if b.getLsbD 0 then a else 0) 0
  rw [zero_xor, xor_zero, zero_gmulLoop] at hsplit
  rw [gmulLoop, zero_xor, hsplit, map_gmulLoop (gdouble_xor p) (fun _ => rfl), gdouble_zero]

/-- The low `n` bits of a byte below `2 ^ n`, taken as multiples of 1, sum to the byte: no doubling on the way overflows. -/
theorem gmulLoop_one (p : BitVec 9) {n : Nat} {b : Byte} (hb : b.toNat < 2 ^ n) : gmulLoop p n 1 b 0 = b := by
  induction n generalizing b with
  | zero => exact (BitVec.eq_of_toNat_eq (Nat.lt_one_iff.mp hb)).symm
  | succ n ih =>
    have hshift : (b >>> 1).toNat < 2 ^ n := by
      rw [BitVec.toNat_ushiftRight, Nat.shiftRight_eq_div_pow]
      omega
    have hdouble : gdouble p (b >>> 1) = b >>> 1 <<< 1 := by simp [gdouble_eq]
    have hbits : (if b.getLsbD 0 then (1 : Byte) else 0) ^^^ b >>> 1 <<< 1 = b := by
      ext i hi
      cases i with
      | zero => cases h : b[0] <;> simp [h]
      | succ j => split <;> simp [Nat.add_comm 1 j, BitVec.getLsbD_eq_getElem hi]
    rw [gmulLoop_succ, ih hshift, hdouble, hbits]

/-! ### Products (R118) -/

theorem gmul_xor_left (p : BitVec 9) (a b c : Byte) : gmul p (a ^^^ b) c = gmul p a c ^^^ gmul p b c :=
  gmulLoop_xor_left p 8 a b c 0 0

theorem zero_gmul (p : BitVec 9) (b : Byte) : gmul p 0 b = 0 := zero_gmulLoop p 8 b 0

theorem one_gmul (p : BitVec 9) (a : Byte) : gmul p 1 a = a := gmulLoop_one p a.isLt

/-- A map that keeps sums and doubling keeps products. -/
theorem map_gmul {p : BitVec 9} {f : Byte → Byte} (hxor : ∀ a b, f (a ^^^ b) = f a ^^^ f b)
    (hdouble : ∀ a, f (gdouble p a) = gdouble p (f a)) (a b : Byte) : f (gmul p a b) = gmul p (f a) b := by
  have hzero : f 0 = 0 := by simpa using hxor 0 0
  rw [gmul, gmul, map_gmulLoop hxor hdouble, hzero]

theorem gmul_gdouble_left (p : BitVec 9) (a b : Byte) : gmul p (gdouble p a) b = gdouble p (gmul p a b) :=
  (map_gmul (gdouble_xor p) (fun _ => rfl) a b).symm

theorem gmul_right_comm (p : BitVec 9) (a b c : Byte) : gmul p (gmul p a b) c = gmul p (gmul p a c) b :=
  map_gmul (f := (gmul p · c)) (gmul_xor_left p · · c) (gmul_gdouble_left p · c) a b

/-- Both factors are multiples of 1, and the order in which 1 is multiplied does not matter. -/
theorem gmul_comm (p : BitVec 9) (a b : Byte) : gmul p a b = gmul p b a :=
  calc
    gmul p a b = gmul p (gmul p 1 a) b := by rw [one_gmul]
    _ = gmul p (gmul p 1 b) a := gmul_right_comm p 1 a b
    _ = gmul p b a := by rw [one_gmul]

theorem gmul_zero (p : BitVec 9) (a : Byte) : gmul p a 0 = 0 := (gmul_comm p a 0).trans (zero_gmul p a)

theorem gmul_one (p : BitVec 9) (a : Byte) : gmul p a 1 = a := (gmul_comm p a 1).trans (one_gmul p a)

theorem gmul_xor_right (p : BitVec 9) (a b c : Byte) : gmul p a (b ^^^ c) = gmul p a b ^^^ gmul p a c := by
  simp only [gmul_comm p a, gmul_xor_left]

theorem gmul_assoc (p : BitVec 9) (a b c : Byte) : gmul p (gmul p a b) c = gmul p a (gmul p b c) := by
  rw [gmul_comm p a b, gmul_right_comm, gmul_comm p _ a]

theorem gdouble_eq_gmul (p : BitVec 9) (a : Byte) : gdouble p a = gmul p 2 a := by
  have htwo : gdouble p 1 = 2 := by simp [gdouble_eq]
  rw [← htwo, gmul_gdouble_left, one_gmul]

/-! ### Powers -/

/-- The `n`th power of a byte modulo `p`. -/
def gpow (p : BitVec 9) (a : Byte) : Nat → Byte
  | 0 => 1
  | n + 1 => gmul p a (gpow p a n)

theorem gpow_one (p : BitVec 9) (a : Byte) : gpow p a 1 = a := gmul_one p a

theorem gpow_add (p : BitVec 9) (a : Byte) (m n : Nat) : gmul p (gpow p a m) (gpow p a n) = gpow p a (m + n) := by
  induction m with
  | zero => rw [gpow, one_gmul, Nat.zero_add]
  | succ m ih => rw [gpow, gmul_assoc, ih, Nat.succ_add, gpow]

theorem one_gpow (p : BitVec 9) (n : Nat) : gpow p 1 n = 1 := by
  induction n with
  | zero => rfl
  | succ n ih => rw [gpow, ih, one_gmul]

theorem gpow_gmul (p : BitVec 9) (a b : Byte) (n : Nat) : gpow p (gmul p a b) n = gmul p (gpow p a n) (gpow p b n) := by
  induction n with
  | zero => exact (one_gmul p 1).symm
  | succ n ih =>
    simp only [gpow, ih]
    rw [gmul_assoc, gmul_assoc, ← gmul_assoc p b, gmul_comm p b, gmul_assoc]

/-- Squaring is additive, as the two mixed products cancel; so is every `2 ^ n`th power. -/
theorem gpow_two_pow_xor (p : BitVec 9) (a b : Byte) (n : Nat) :
    gpow p (a ^^^ b) (2 ^ n) = gpow p a (2 ^ n) ^^^ gpow p b (2 ^ n) := by
  induction n with
  | zero => simp only [Nat.pow_zero, gpow_one]
  | succ n ih =>
    rw [Nat.pow_succ, Nat.mul_two, ← gpow_add, ← gpow_add, ← gpow_add, ih, gmul_xor_left, gmul_xor_right, gmul_xor_right,
      gmul_comm p (gpow p b _) (gpow p a _), xor_assoc, xor_cancel_left]

theorem ginv_eq_gpow (p : BitVec 9) (a : Byte) : ginv p a = gpow p a 254 := by
  conv_lhs => rw [← gpow_one p a]
  simp only [ginv, gpow_add, Nat.reduceAdd]

theorem ginv_zero (p : BitVec 9) : ginv p 0 = 0 := by rw [ginv_eq_gpow, gpow, zero_gmul]

/-! ### Inverses in the Square field (R121) -/

/-- The 256th power keeps sums, and it keeps doubling as it fixes 2; so it fixes every multiple of 1. -/
theorem gpow_polySquare_256 (a : Byte) : gpow polySquare a 256 = a := by
  have htwo : gpow polySquare 2 256 = 2 := by decide +kernel
  have hdouble (x : Byte) : gpow polySquare (gdouble polySquare x) 256 = gdouble polySquare (gpow polySquare x 256) := by
    rw [gdouble_eq_gmul, gpow_gmul, htwo, gdouble_eq_gmul]
  calc
    gpow polySquare a 256 = gpow polySquare (gmul polySquare 1 a) 256 := by rw [one_gmul]
    _ = gmul polySquare (gpow polySquare 1 256) a :=
      map_gmul (f := fun x => gpow polySquare x 256) (fun x y => gpow_two_pow_xor polySquare x y 8) hdouble 1 a
    _ = a := by rw [one_gpow, one_gmul]

/-- The finite check the inverse rests on, over the 256 bytes: modulo the Square polynomial, which has no two coprime factors,
only 0 and 1 are their own squares. -/
theorem eq_zero_or_one_of_gmul_self {e : Byte} (he : gmul polySquare e e = e) : e = 0 ∨ e = 1 := by
  revert e
  decide +kernel

/-- The 255th power of a byte is its own square, so it is 0 or 1; it is not 0, as the byte is a multiple of it. -/
theorem gmul_ginv {a : Byte} (ha : a ≠ 0) : gmul polySquare a (ginv polySquare a) = 1 := by
  have hpow : gmul polySquare a (ginv polySquare a) = gpow polySquare a 255 := by rw [ginv_eq_gpow, ← gpow]
  have hself : gmul polySquare (gpow polySquare a 255) (gpow polySquare a 255) = gpow polySquare a 255 :=
    calc
      _ = gpow polySquare a 510 := gpow_add polySquare a 255 255
      _ = gmul polySquare (gpow polySquare a 256) (gpow polySquare a 254) := (gpow_add polySquare a 256 254).symm
      _ = gpow polySquare a 255 := by rw [gpow_polySquare_256, ← gpow]
  rcases eq_zero_or_one_of_gmul_self hself with hzero | hone
  · have hazero : a = 0 :=
      calc
        a = gpow polySquare a 256 := (gpow_polySquare_256 a).symm
        _ = gmul polySquare a (gpow polySquare a 255) := by rw [gpow]
        _ = 0 := by rw [hzero, gmul_zero]
    exact absurd hazero ha
  · exact hpow.trans hone

/-- Settles O50: commutativity holds for every polynomial, and the inverse is the 254th power. -/
theorem fieldMultiplicationLaws : Obligations.FieldMultiplicationLaws :=
  ⟨fun p a b c => ⟨gmul_zero p a, zero_gmul p b, gmul_one p a, gmul_xor_left p a b c, gmul_xor_right p a b c⟩,
    fun p a b _ => gmul_comm p a b, fun _ ha => gmul_ginv ha, ginv_zero polySquare⟩

end Sys2Proof.Machine
end

section
/-! The Square commands (spec/41_square.md R150-R153): what a command's meaning does from IDLE and with itself in flight. -/

namespace Sys2Proof.Machine

/-- The commit of the command in flight (R234). -/
theorem exec_inFlight {s : State} {f : Flight} (hf : s.seq = .busy f) : exec f.instr s = .next (commitPart f s).finish := by
  have hexec : commitEvent s = exec f.instr s := by simp only [commitEvent, hf]
  obtain ⟨t, ht⟩ := commitEvent_answers s
  rw [← hexec, ht]
  rcases commitEvent_cases ht with ⟨hidle, _⟩ | ⟨g, hg, rfl⟩
  · exact absurd (hidle.symm.trans hf) (by simp)
  · obtain rfl : f = g := Seq.busy.inj (hf.symm.trans hg)
    rfl

theorem exec_sqKey_idle {s : State} (hidle : s.seq = .idle) :
    exec .sqKey s = .next (s.accept (.sqKey (snapSquareKey s))) := by
  simp only [exec, execSqKey, hidle]

theorem exec_sqEnc_idle {s : State} (hidle : s.seq = .idle) :
    exec .sqEnc s = if s.sqKeyed then .next (s.accept (.sqEnc s.din)) else .next (s.cmdError .notKeyed) := by
  simp only [exec, execSqEnc, hidle]

theorem exec_sqDec_idle {s : State} (hidle : s.seq = .idle) :
    exec .sqDec s = if s.sqKeyed then .next (s.accept (.sqDec s.din)) else .next (s.cmdError .notKeyed) := by
  simp only [exec, execSqDec, hidle]

theorem exec_sqClear_idle {s : State} (hidle : s.seq = .idle) : exec .sqClear s = .next (s.accept .sqClear) := by
  simp only [exec, execSqClear, hidle]

/-- Settles O38: the issue takes the snapshot of KEY0-KEY3, and the commit is the sequencer's for that snapshot. -/
theorem squareKeyCompletes : Obligations.SquareKeyCompletes := fun _ =>
  ⟨exec_sqKey_idle, fun _ hf => exec_inFlight hf⟩

/-- Settles O39: from IDLE the SQ_KEYED flag decides between acceptance and NOT_KEYED. -/
theorem squareEncryptCompletes : Obligations.SquareEncryptCompletes := fun _ =>
  ⟨fun hidle hkeyed => (exec_sqEnc_idle hidle).trans (if_pos hkeyed),
    fun hidle hkeyed => (exec_sqEnc_idle hidle).trans (if_neg (Bool.eq_false_iff.mp hkeyed)), fun _ hf => exec_inFlight hf⟩

/-- Settles O40: from IDLE the SQ_KEYED flag decides between acceptance and NOT_KEYED. -/
theorem squareDecryptCompletes : Obligations.SquareDecryptCompletes := fun _ =>
  ⟨fun hidle hkeyed => (exec_sqDec_idle hidle).trans (if_pos hkeyed),
    fun hidle hkeyed => (exec_sqDec_idle hidle).trans (if_neg (Bool.eq_false_iff.mp hkeyed)), fun _ hf => exec_inFlight hf⟩

/-- Settles O41: the schedule that the commit stores has all four arrays zero. -/
theorem squareClearCompletes : Obligations.SquareClearCompletes := fun _ => ⟨exec_sqClear_idle, fun hf => exec_inFlight hf⟩

end Sys2Proof.Machine
end

section
/-! The Square transform and tables (spec/41_square.md R131-R136). Words are compared byte by byte: a circulant map is four
products per byte, so two of them compose by the product of their matrices, and a column of the matrix is a T-table's entry. -/

namespace Sys2Proof.Machine

/-! ### The bytes of a word -/

theorem word_eq_of_byteBe {v w : Word} (h : ∀ j < 4, byteBe j v = byteBe j w) : v = w := by
  rw [← loadBe32_byteBe v, ← loadBe32_byteBe w, h 0 (by decide), h 1 (by decide), h 2 (by decide), h 3 (by decide)]

theorem byteBe_xor (j : Nat) (v w : Word) : byteBe j (v ^^^ w) = byteBe j v ^^^ byteBe j w := BitVec.extractLsb'_xor

theorem byteBe_loadBe32 (b : Nat → Byte) {j : Nat} (hj : j < 4) : byteBe j (loadBe32 (b 0) (b 1) (b 2) (b 3)) = b j := by
  interval_cases j
  · exact byteBe_zero_loadBe32 _ _ _ _
  · exact byteBe_one_loadBe32 _ _ _ _
  · exact byteBe_two_loadBe32 _ _ _ _
  · exact byteBe_three_loadBe32 _ _ _ _

/-- A rotation by `k` bytes moves each byte `k` places up; the last ones come in front. -/
theorem byteBe_rotr32 (w : Word) {j k : Nat} (hj : j < 4) (hk : k < 4) :
    byteBe j (rotr32 w (8 * k)) = byteBe ((j + 4 - k) % 4) w := by
  apply BitVec.eq_of_getLsbD_eq
  intro i hi
  simp only [byteBe_getLsbD, rotr32, BitVec.getLsbD_or, BitVec.getLsbD_ushiftRight, BitVec.getLsbD_shiftLeft]
  by_cases hkj : k ≤ j
  · have hlow : 24 - 8 * j + i < 32 - 8 * k := by omega
    have hbit : 8 * k + (24 - 8 * j + i) = 24 - 8 * ((j + 4 - k) % 4) + i := by omega
    simp [hlow, hbit]
  · have hhigh : w.getLsbD (8 * k + (24 - 8 * j + i)) = false := BitVec.getLsbD_of_ge w _ (by omega)
    have hnot : ¬ 24 - 8 * j + i < 32 - 8 * k := by omega
    have hin : 24 - 8 * j + i < 32 := by omega
    have hbit : 24 - 8 * j + i - (32 - 8 * k) = 24 - 8 * ((j + 4 - k) % 4) + i := by omega
    simp [hhigh, hnot, hin, hbit]

/-! ### Circulant maps (R134, R135) -/

theorem byteBe_thetaWith (coef : List Byte) (w : Word) {j : Nat} (hj : j < 4) :
    byteBe j (thetaWith coef w) =
      gmul polySquare (circulant coef j 0) (byteBe 0 w) ^^^ gmul polySquare (circulant coef j 1) (byteBe 1 w) ^^^
        gmul polySquare (circulant coef j 2) (byteBe 2 w) ^^^ gmul polySquare (circulant coef j 3) (byteBe 3 w) := by
  have hlane : byteBe j (thetaWith coef w) = gdot polySquare (circulantRow coef j) (storeBe32 w) :=
    byteBe_loadBe32 (fun j => gdot polySquare (circulantRow coef j) (storeBe32 w)) hj
  rw [hlane]
  simp [gdot, xorSum, circulantRow, storeBe32, List.range_succ, BitVec.xor_assoc]

theorem thetaWith_xor (coef : List Byte) (v w : Word) :
    thetaWith coef (v ^^^ w) = thetaWith coef v ^^^ thetaWith coef w := by
  apply word_eq_of_byteBe
  intro j hj
  simp only [byteBe_xor, byteBe_thetaWith _ _ hj, gmul_xor_right]
  ac_rfl

/-- Entry `[i][k]` of the product of two circulant matrices over the Square field. -/
def circulantProduct (d c : List Byte) (i k : Nat) : Byte :=
  gmul polySquare (circulant d i 0) (circulant c 0 k) ^^^ gmul polySquare (circulant d i 1) (circulant c 1 k) ^^^
    gmul polySquare (circulant d i 2) (circulant c 2 k) ^^^ gmul polySquare (circulant d i 3) (circulant c 3 k)

theorem byteBe_thetaWith_thetaWith (d c : List Byte) (w : Word) {i : Nat} (hi : i < 4) :
    byteBe i (thetaWith d (thetaWith c w)) =
      gmul polySquare (circulantProduct d c i 0) (byteBe 0 w) ^^^ gmul polySquare (circulantProduct d c i 1) (byteBe 1 w) ^^^
        gmul polySquare (circulantProduct d c i 2) (byteBe 2 w) ^^^ gmul polySquare (circulantProduct d c i 3) (byteBe 3 w) := by
  simp (disch := omega) only [byteBe_thetaWith, circulantProduct, gmul_xor_right, gmul_xor_left, gmul_assoc]
  ac_rfl

theorem gmul_indicator (p : BitVec 9) (c : Prop) [Decidable c] (b : Byte) :
    gmul p (if c then 1 else 0) b = if c then b else 0 := by
  split
  · exact one_gmul p b
  · exact zero_gmul p b

/-- A circulant map undoes another when the product of their matrices is the identity. -/
theorem thetaWith_thetaWith {c d : List Byte} (h : ∀ i < 4, ∀ k < 4, circulantProduct d c i k = if i = k then 1 else 0)
    (w : Word) : thetaWith d (thetaWith c w) = w := by
  apply word_eq_of_byteBe
  intro i hi
  rw [byteBe_thetaWith_thetaWith d c w hi, h i hi 0 (by decide), h i hi 1 (by decide), h i hi 2 (by decide),
    h i hi 3 (by decide)]
  simp only [gmul_indicator]
  interval_cases i <;> simp

theorem thetaInvW_thetaW (w : Word) : thetaInvW (thetaW w) = w := thetaWith_thetaWith (by decide +kernel) w

theorem thetaW_thetaInvW (w : Word) : thetaW (thetaInvW w) = w := thetaWith_thetaWith (by decide +kernel) w

/-- Settles O52: the coefficients are those of the circulant map, and the two matrices are inverse to each other. -/
theorem thetaInverseInvertsTheta : Obligations.ThetaInverseInvertsTheta :=
  ⟨fun w j => byteBe_thetaWith thetaInvCoef w j.isLt, fun w => ⟨thetaInvW_thetaW w, thetaW_thetaInvW w⟩,
    fun _ _ => Vector.getElem_map _ _, by decide +kernel⟩

/-! ### The T-tables (R136) -/

theorem byteBe_tableColumn (coef : List Byte) (k : Nat) (s : Byte) {j : Nat} (hj : j < 4) :
    byteBe j (tableColumn coef k s) = gmul polySquare (circulant coef j k) s :=
  byteBe_loadBe32 (fun j => gmul polySquare (circulant coef j k) s) hj

theorem tableColumn_zero (coef : List Byte) (k : Nat) : tableColumn coef k 0 = 0 := by
  simp only [tableColumn, gmul_zero]
  rfl

/-- A circulant map is the sum of its columns, each times one byte of the word. -/
theorem thetaWith_loadBe32 (coef : List Byte) (b0 b1 b2 b3 : Byte) :
    thetaWith coef (loadBe32 b0 b1 b2 b3) =
      tableColumn coef 0 b0 ^^^ tableColumn coef 1 b1 ^^^ tableColumn coef 2 b2 ^^^ tableColumn coef 3 b3 := by
  apply word_eq_of_byteBe
  intro j hj
  simp [byteBe_xor, byteBe_thetaWith _ _ hj, byteBe_tableColumn _ _ _ hj]

/-- The columns of a circulant matrix are rotations of the first. -/
theorem tableColumn_eq_rotr32 (coef : List Byte) {k : Nat} (hk : k < 4) (s : Byte) :
    tableColumn coef k s = rotr32 (tableColumn coef 0 s) (8 * k) := by
  apply word_eq_of_byteBe
  intro j hj
  have hentry : circulant coef ((j + 4 - k) % 4) 0 = circulant coef j k := by simp [circulant]
  rw [byteBe_rotr32 _ hj hk, byteBe_tableColumn _ _ _ hj, byteBe_tableColumn _ _ _ (Nat.mod_lt _ (by decide)), hentry]

/-- A column times a byte is the map of the row with that byte alone. -/
theorem tableColumn_eq_thetaWith (coef : List Byte) (s : Byte) :
    tableColumn coef 0 s = thetaWith coef (loadBe32 s 0 0 0) ∧ tableColumn coef 1 s = thetaWith coef (loadBe32 0 s 0 0) ∧
      tableColumn coef 2 s = thetaWith coef (loadBe32 0 0 s 0) ∧ tableColumn coef 3 s = thetaWith coef (loadBe32 0 0 0 s) := by
  simp only [thetaWith_loadBe32, tableColumn_zero, xor_zero, zero_xor, and_self]

/-! ### The S-boxes (R131, R132) -/

theorem squareSe_eq (x : Byte) : squareSe x = squareL (ginv polySquare x) ^^^ 0xB1 := by
  revert x
  decide +kernel

theorem squareSd_squareSe (x : Byte) : squareSd (squareSe x) = x := by
  revert x
  decide +kernel

theorem squareSe_squareSd (x : Byte) : squareSe (squareSd x) = x := by
  revert x
  decide +kernel

/-- Settles O51: the S-boxes by evaluation on the 256 bytes, the T-tables as the columns of the circulant maps. -/
theorem squareTablesFollowTheirConstruction : Obligations.SquareTablesFollowTheirConstruction :=
  ⟨squareSe_eq, fun x => ⟨squareSd_squareSe x, squareSe_squareSd x⟩,
    fun x => tableColumn_eq_thetaWith thetaCoef (squareSe x), fun x => tableColumn_eq_thetaWith thetaInvCoef (squareSd x),
    fun k x => ⟨tableColumn_eq_rotr32 thetaCoef k.isLt (squareSe x), tableColumn_eq_rotr32 thetaInvCoef k.isLt (squareSd x)⟩⟩

end Sys2Proof.Machine
end

section
/-! The published Square cipher (spec/41_square.md R137-R139): each map of a round has an inverse, so each round has, and the
eight inverses undo the eight rounds. -/

namespace Sys2Proof.Machine

/-! ### The bytes of a state (R137) -/

theorem state_eq_of_byteBe {a b : Vector Word 4} (h : ∀ i (hi : i < 4), ∀ j < 4, byteBe j a[i] = byteBe j b[i]) : a = b :=
  Vector.ext fun i hi => word_eq_of_byteBe (h i hi)

theorem byteBe_squareGamma (sbox : Byte → Byte) (a : Vector Word 4) {i j : Nat} (hi : i < 4) (hj : j < 4) :
    byteBe j (squareGamma sbox a)[i] = sbox (byteBe j a[i]) := by
  rw [squareGamma, Vector.getElem_map]
  exact byteBe_loadBe32 (fun j => sbox (byteBe j a[i])) hj

theorem byteBe_squarePi (a : Vector Word 4) {i j : Nat} (hi : i < 4) (hj : j < 4) :
    byteBe j (squarePi a)[i] = byteBe i a[j] := by
  interval_cases j <;> simp [squarePi]

/-! ### The maps of a round and their inverses (R138) -/

theorem squarePi_squarePi (a : Vector Word 4) : squarePi (squarePi a) = a :=
  state_eq_of_byteBe fun _ hi _ hj => (byteBe_squarePi _ hi hj).trans (byteBe_squarePi a hj hi)

/-- Substitution acts on each byte alone, so it may come before or after the transposition. -/
theorem squarePi_squareGamma (sbox : Byte → Byte) (a : Vector Word 4) :
    squarePi (squareGamma sbox a) = squareGamma sbox (squarePi a) := by
  apply state_eq_of_byteBe
  intro i hi j hj
  rw [byteBe_squarePi _ hi hj, byteBe_squareGamma _ _ hj hi, byteBe_squareGamma _ _ hi hj, byteBe_squarePi _ hi hj]

theorem squareGamma_squareSd_squareSe (a : Vector Word 4) : squareGamma squareSd (squareGamma squareSe a) = a := by
  apply state_eq_of_byteBe
  intro i hi j hj
  rw [byteBe_squareGamma _ _ hi hj, byteBe_squareGamma _ _ hi hj, squareSd_squareSe]

theorem squareThetaInv_squareTheta (a : Vector Word 4) : squareThetaInv (squareTheta a) = a := by
  refine Vector.ext fun i hi => ?_
  simp [squareThetaInv, squareTheta, thetaInvW_thetaW]

theorem squareTheta_squareThetaInv (a : Vector Word 4) : squareTheta (squareThetaInv a) = a := by
  refine Vector.ext fun i hi => ?_
  simp [squareThetaInv, squareTheta, thetaW_thetaInvW]

theorem squareSigma_getElem (k a : Vector Word 4) {i : Nat} (hi : i < 4) : (squareSigma k a)[i] = a[i] ^^^ k[i] :=
  Vector.getElem_zipWith hi

theorem squareSigma_squareSigma (k a : Vector Word 4) : squareSigma k (squareSigma k a) = a := by
  refine Vector.ext fun i hi => ?_
  rw [squareSigma_getElem, squareSigma_getElem, xor_cancel_right]

/-! ### The cipher (R139) -/

theorem squareRhoInv_squareRho (k a : Vector Word 4) : squareRhoInv k (squareRho k a) = a := by
  rw [squareRhoInv, squareRho, squareSigma_squareSigma, squarePi_squarePi, squareGamma_squareSd_squareSe,
    squareThetaInv_squareTheta]

/-- Settles O53: each inverse round meets the round it undoes, the last one first. -/
theorem squareReferenceRoundTrip : Obligations.SquareReferenceRoundTrip := by
  intro key p
  simp only [squareDecReference, squareEncReference, List.foldl_cons, List.foldl_nil, squareRhoInv_squareRho,
    squareSigma_squareSigma, squareTheta_squareThetaInv]

end Sys2Proof.Machine
end

section
/-! The Square datapath (spec/41_square.md R143-R149). A table round is a round that ends in θ, and the schedule's round keys
and masks are those of the published cipher, moved through θ: encryption carries the published state under θ from round to
round, decryption carries it under the key addition. -/

namespace Sys2Proof.Machine

/-! ### The datapath in the maps of the reference cipher (R143-R145) -/

/-- The round keys that table round `r` adds, as a state. -/
def roundKeyRows (rk : Vector Word 32) (r : Nat) : Vector Word 4 := tabulate 4 (fun i => rk.getD (4 * r + i) 0)

/-- Sixteen bytes of a mask as a state. -/
def maskRows (mask : Vector Byte 32) (start : Nat) : Vector Word 4 :=
  tabulate 4 (fun i => loadBe32 (mask.getD (start + 4 * i) 0) (mask.getD (start + 4 * i + 1) 0)
    (mask.getD (start + 4 * i + 2) 0) (mask.getD (start + 4 * i + 3) 0))

theorem byteBe_maskRows (mask : Vector Byte 32) (start : Nat) {i j : Nat} (hi : i < 4) (hj : j < 4) :
    byteBe j (maskRows mask start)[i] = mask.getD (start + 4 * i + j) 0 := by
  rw [maskRows, tabulate_getElem]
  exact byteBe_loadBe32 (fun j => mask.getD (start + 4 * i + j) 0) hj

/-- The four lookups of a table round are a circulant map of a transposed and substituted row. -/
theorem tableRound_eq {t : Nat → Byte → Word} {coef : List Byte} {sbox : Byte → Byte}
    (ht : ∀ k x, t k x = tableColumn coef k (sbox x)) (rk : Vector Word 32) (x : Vector Word 4) (r : Nat) :
    tableRound t rk x r = squareSigma (roundKeyRows rk r) ((squareGamma sbox (squarePi x)).map (thetaWith coef)) := by
  refine Vector.ext fun i hi => ?_
  simp [tableRound, squareSigma_getElem, roundKeyRows, squareGamma, squarePi, thetaWith_loadBe32, ht]

theorem finalRound_eq (sbox : Byte → Byte) (mask : Vector Byte 32) (x : Vector Word 4) :
    finalRound sbox mask x = squareSigma (maskRows mask 16) (squareGamma sbox (squarePi x)) := by
  apply state_eq_of_byteBe
  intro i hi j hj
  rw [squareSigma_getElem, byteBe_xor, byteBe_squareGamma _ _ hi hj, byteBe_squarePi _ hi hj, byteBe_maskRows _ _ hi hj]
  interval_cases j <;> simp [finalRound]

theorem inputMask_eq (mask : Vector Byte 32) (d : Vector Word 4) : inputMask mask d = squareSigma (maskRows mask 0) d := by
  refine Vector.ext fun i hi => ?_
  simp [inputMask, squareSigma_getElem, maskRows, Vector.getD, hi]

/-! ### The schedule's rows (R146) -/

theorem squareKr_eq (key : Vector Word 4) (t : Nat) {i : Nat} (hi : i < 4) :
    squareKr key (4 * t + i) = (squareRoundKey key t)[i] := by
  have hdiv : (4 * t + i) / 4 = t := by omega
  have hmod : (4 * t + i) % 4 = i := by omega
  simp [squareKr, hdiv, hmod, Vector.getD, hi]

theorem rowBytes_eq (k : Vector Word 4) {i j : Nat} (hi : i < 4) (hj : j < 4) : rowBytes k (4 * i + j) = byteBe j k[i] := by
  have hdiv : (4 * i + j) / 4 = i := by omega
  have hmod : (4 * i + j) % 4 = j := by omega
  simp [rowBytes, hdiv, hmod, Vector.getD, hi]

theorem roundKeyRows_ek (key : Vector Word 4) {r : Nat} (hr : r < 7) :
    roundKeyRows (squareSchedule key).ek r = squareTheta (squareRoundKey key (r + 1)) := by
  refine Vector.ext fun i hi => ?_
  have hindex : 4 * r + i + 4 = 4 * (r + 1) + i := by omega
  have hin : 4 * r + i < 32 := by omega
  have hrow : 4 * r + i < 28 := by omega
  simp [roundKeyRows, squareSchedule, squareTheta, hin, hrow, hindex, squareKr_eq _ _ hi]

theorem roundKeyRows_dk (key : Vector Word 4) {r : Nat} (hr : r < 7) :
    roundKeyRows (squareSchedule key).dk r = squareRoundKey key (7 - r) := by
  refine Vector.ext fun i hi => ?_
  have hdiv : (4 * r + i) / 4 = r := by omega
  have hmod : (4 * r + i) % 4 = i := by omega
  have hin : 4 * r + i < 32 := by omega
  have hrow : 4 * r + i < 28 := by omega
  rw [roundKeyRows, tabulate_getElem, squareSchedule, tabulate_getD _ _ _ _ hin, if_pos hrow, hdiv, hmod, squareKr_eq _ _ hi]

/-- The halves of a mask of 32 bytes are the states its bytes were taken from. -/
theorem maskRows_tabulate (v w : Vector Word 4) :
    maskRows (tabulate 32 (fun n => if n < 16 then rowBytes v n else rowBytes w (n - 16))) 0 = v ∧
      maskRows (tabulate 32 (fun n => if n < 16 then rowBytes v n else rowBytes w (n - 16))) 16 = w := by
  constructor
  · apply state_eq_of_byteBe
    intro i hi j hj
    have hhalf : 4 * i + j < 16 := by omega
    rw [byteBe_maskRows _ _ hi hj, Nat.zero_add, tabulate_getD _ _ _ _ (by omega), if_pos hhalf, rowBytes_eq _ hi hj]
  · apply state_eq_of_byteBe
    intro i hi j hj
    have hhalf : ¬ 16 + 4 * i + j < 16 := by omega
    have hindex : 16 + 4 * i + j - 16 = 4 * i + j := by omega
    rw [byteBe_maskRows _ _ hi hj, tabulate_getD _ _ _ _ (by omega), if_neg hhalf, hindex, rowBytes_eq _ hi hj]

theorem maskRows_me (key : Vector Word 4) : maskRows (squareSchedule key).me 0 = squareTheta (squareRoundKey key 0) ∧
    maskRows (squareSchedule key).me 16 = squareRoundKey key 8 :=
  maskRows_tabulate (squareTheta (squareRoundKey key 0)) (squareRoundKey key 8)

theorem maskRows_md (key : Vector Word 4) : maskRows (squareSchedule key).md 0 = squareRoundKey key 8 ∧
    maskRows (squareSchedule key).md 16 = squareTheta (squareRoundKey key 0) :=
  maskRows_tabulate (squareRoundKey key 8) (squareTheta (squareRoundKey key 0))

/-! ### Encryption (R147) -/

theorem squareTheta_squareSigma (k a : Vector Word 4) :
    squareTheta (squareSigma k a) = squareSigma (squareTheta k) (squareTheta a) := by
  refine Vector.ext fun i hi => ?_
  simp [squareTheta, squareSigma_getElem, thetaW, thetaWith_xor]

/-- A table round of encryption takes θ of a state to θ of the published round of that state. -/
theorem tableRound_squareTheta (key a : Vector Word 4) {r : Nat} (hr : r < 7) :
    tableRound squareTe (squareSchedule key).ek (squareTheta a) r =
      squareTheta (squareRho (squareRoundKey key (r + 1)) a) := by
  have ht : ∀ k x, squareTe k x = tableColumn thetaCoef k (squareSe x) := fun _ _ => rfl
  rw [tableRound_eq ht, roundKeyRows_ek key hr, squareRho, squarePi_squareGamma, squareTheta_squareSigma]
  rfl

theorem foldl_tableRound_squareTheta (key a : Vector Word 4) {n : Nat} (hn : n ≤ 7) :
    (List.range n).foldl (tableRound squareTe (squareSchedule key).ek) (squareTheta a) =
      squareTheta ((List.range n).foldl (fun b r => squareRho (squareRoundKey key (r + 1)) b) a) := by
  induction n with
  | zero => rfl
  | succ n ih =>
    simp only [List.range_succ, List.foldl_append, List.foldl_cons, List.foldl_nil]
    rw [ih (by omega), tableRound_squareTheta key _ (by omega)]

/-- θ of the whitened state is the plaintext plus the input mask, and the last table round leaves what the final round makes
the published last round of. -/
theorem squareEncrypt_squareSchedule (key p : Vector Word 4) :
    squareEncrypt (squareSchedule key) p = squareEncReference key p := by
  have hin : inputMask (squareSchedule key).me p = squareTheta (squareSigma (squareRoundKey key 0) (squareThetaInv p)) := by
    rw [inputMask_eq, (maskRows_me key).1, squareTheta_squareSigma, squareTheta_squareThetaInv]
  have hout (b : Vector Word 4) :
      finalRound squareSe (squareSchedule key).me (squareTheta b) = squareRho (squareRoundKey key 8) b := by
    rw [finalRound_eq, (maskRows_me key).2, squareRho, squarePi_squareGamma]
  rw [squareEncrypt, squareDatapath, hin, foldl_tableRound_squareTheta key _ le_rfl, hout]
  rfl

/-! ### Decryption (R148) -/

/-- A table round of decryption takes the state under one key addition to the undone published round of that state under the
next. -/
theorem tableRound_squareSigma (key a : Vector Word 4) {r : Nat} (hr : r < 7) :
    tableRound squareTd (squareSchedule key).dk (squareSigma (squareRoundKey key (8 - r)) a) r =
      squareSigma (squareRoundKey key (7 - r)) (squareRhoInv (squareRoundKey key (8 - r)) a) := by
  have ht : ∀ k x, squareTd k x = tableColumn thetaInvCoef k (squareSd x) := fun _ _ => rfl
  rw [tableRound_eq ht, roundKeyRows_dk key hr]
  rfl

theorem foldl_tableRound_squareSigma (key a : Vector Word 4) {n : Nat} (hn : n ≤ 7) :
    (List.range n).foldl (tableRound squareTd (squareSchedule key).dk) (squareSigma (squareRoundKey key 8) a) =
      squareSigma (squareRoundKey key (8 - n))
        ((List.range n).foldl (fun b r => squareRhoInv (squareRoundKey key (8 - r)) b) a) := by
  induction n with
  | zero => rfl
  | succ n ih =>
    simp only [List.range_succ, List.foldl_append, List.foldl_cons, List.foldl_nil]
    rw [ih (by omega), tableRound_squareSigma key _ (by omega), Nat.add_comm n 1, ← Nat.sub_sub]

/-- The final round is the last published round undone, but for θ⁻¹, which the closing θ of the published cipher cancels. -/
theorem squareDecrypt_squareSchedule (key c : Vector Word 4) :
    squareDecrypt (squareSchedule key) c = squareDecReference key c := by
  have hin : inputMask (squareSchedule key).md c = squareSigma (squareRoundKey key 8) c := by
    rw [inputMask_eq, (maskRows_md key).1]
  have hout (b : Vector Word 4) : finalRound squareSd (squareSchedule key).md (squareSigma (squareRoundKey key 1) b) =
      squareTheta (squareSigma (squareRoundKey key 0) (squareRhoInv (squareRoundKey key 1) b)) := by
    rw [finalRound_eq, (maskRows_md key).2, squareTheta_squareSigma, squareRhoInv, squareTheta_squareThetaInv]
  rw [squareDecrypt, squareDatapath, hin, foldl_tableRound_squareSigma key c le_rfl, hout]
  rfl

/-- Settles O54: both directions are the published cipher's, and so is the round trip. -/
theorem squareDatapathIsThePublishedCipher : Obligations.SquareDatapathIsThePublishedCipher := by
  intro key p
  refine ⟨squareEncrypt_squareSchedule key p, squareDecrypt_squareSchedule key p, ?_⟩
  rw [squareEncrypt_squareSchedule, squareDecrypt_squareSchedule]
  exact squareReferenceRoundTrip key p

end Sys2Proof.Machine
end

section
/-! The Twofish commands (spec/42_twofish.md R190-R193): what a command's meaning does from IDLE; with itself in flight it
commits, as every command does (`exec_inFlight`). -/

namespace Sys2Proof.Machine

theorem exec_tfKey_accept {s : State} {klen : BitVec 2} {key : TwofishKey} (hkey : snapTwofishKey klen s = some key)
    (hidle : s.seq = .idle) : exec (.tfKey klen) s = .next (s.accept (.tfKey key)) := by
  simp only [exec, execTfKey, hidle, hkey]

theorem exec_tfKey_reject {s : State} {klen : BitVec 2} (hkey : snapTwofishKey klen s = none) (hidle : s.seq = .idle) :
    exec (.tfKey klen) s = .next (s.cmdError .badKlen) := by
  simp only [exec, execTfKey, hidle, hkey]

theorem exec_tfEnc_idle {s : State} (hidle : s.seq = .idle) :
    exec .tfEnc s = if s.tfKeyed then .next (s.accept (.tfEnc s.din)) else .next (s.cmdError .notKeyed) := by
  simp only [exec, execTfEnc, hidle]

theorem exec_tfDec_idle {s : State} (hidle : s.seq = .idle) :
    exec .tfDec s = if s.tfKeyed then .next (s.accept (.tfDec s.din)) else .next (s.cmdError .notKeyed) := by
  simp only [exec, execTfDec, hidle]

theorem exec_tfClear_idle {s : State} (hidle : s.seq = .idle) : exec .tfClear s = .next (s.accept .tfClear) := by
  simp only [exec, execTfClear, hidle]

/-- Settles O42: KLEN selects the snapshot, or none; the commit is the sequencer's for the snapshot taken. -/
theorem twofishKeyCompletes : Obligations.TwofishKeyCompletes := fun _ =>
  ⟨exec_tfKey_accept rfl, exec_tfKey_accept rfl, exec_tfKey_accept rfl, exec_tfKey_reject rfl, fun _ hf => exec_inFlight hf⟩

/-- Settles O43: from IDLE the TF_KEYED flag decides between acceptance and NOT_KEYED. -/
theorem twofishEncryptCompletes : Obligations.TwofishEncryptCompletes := fun _ =>
  ⟨fun hidle hkeyed => (exec_tfEnc_idle hidle).trans (if_pos hkeyed),
    fun hidle hkeyed => (exec_tfEnc_idle hidle).trans (if_neg (Bool.eq_false_iff.mp hkeyed)), fun _ hf => exec_inFlight hf⟩

/-- Settles O44: from IDLE the TF_KEYED flag decides between acceptance and NOT_KEYED. -/
theorem twofishDecryptCompletes : Obligations.TwofishDecryptCompletes := fun _ =>
  ⟨fun hidle hkeyed => (exec_tfDec_idle hidle).trans (if_pos hkeyed),
    fun hidle hkeyed => (exec_tfDec_idle hidle).trans (if_neg (Bool.eq_false_iff.mp hkeyed)), fun _ hf => exec_inFlight hf⟩

/-- Settles O45: the schedule that the commit stores has both arrays zero. -/
theorem twofishClearCompletes : Obligations.TwofishClearCompletes := fun _ =>
  ⟨exec_tfClear_idle, fun hf => exec_inFlight hf⟩

end Sys2Proof.Machine
end

section
/-! The q permutations (spec/42_twofish.md R171, R172). The nibble construction alternates a mixing of the two nibbles, which
can be undone, with one nibble table for each of them; it is one-to-one because the tables are. -/

namespace Sys2Proof.Machine

/-! ### The mixing of two nibbles -/

/-- The step of R171 that takes `(a0, b0)` to `(a1, b1)` and `(a2, b2)` to `(a3, b3)`. -/
def nibbleMix (a b : BitVec 4) : BitVec 4 × BitVec 4 := (a ^^^ b, a ^^^ rotr4 b 1 ^^^ (a <<< 3))

/-- The sum of the second mixed nibble and the rotated first is `a ^^^ (a >>> 1)`, the Gray code of `a`, which is undone by
summing its shifts. -/
def nibbleUnmix (p : BitVec 4 × BitVec 4) : BitVec 4 × BitVec 4 :=
  let g := p.2 ^^^ rotr4 p.1 1
  let a := g ^^^ (g >>> 1) ^^^ (g >>> 2) ^^^ (g >>> 3)
  (a, a ^^^ p.1)

theorem nibbleUnmix_nibbleMix (a b : BitVec 4) : nibbleUnmix (nibbleMix a b) = (a, b) := by
  revert a b
  decide +kernel

theorem nibbleMix_inj {a b a' b' : BitVec 4} (h : nibbleMix a b = nibbleMix a' b') : a = a' ∧ b = b' := by
  have hpair : (a, b) = (a', b') := by rw [← nibbleUnmix_nibbleMix a b, h, nibbleUnmix_nibbleMix]
  exact Prod.mk.inj hpair

/-! ### The construction is one-to-one (R171) -/

theorem qperm_eq (t : List (List (BitVec 4))) (x : Byte) : qperm t x =
    let m := nibbleMix (x.extractLsb' 4 4) (x.extractLsb' 0 4)
    let n := nibbleMix (nibbleEntry t 0 m.1) (nibbleEntry t 1 m.2)
    nibbleEntry t 3 n.2 ++ nibbleEntry t 2 n.1 := rfl

theorem byte_eq_of_nibbles {x y : Byte} (hhigh : x.extractLsb' 4 4 = y.extractLsb' 4 4)
    (hlow : x.extractLsb' 0 4 = y.extractLsb' 0 4) : x = y := by
  have hbyte (z : Byte) : z.extractLsb' 4 4 ++ z.extractLsb' 0 4 = z :=
    (BitVec.extractLsb'_append_extractLsb'_eq_extractLsb' (start₁ := 0) (len₁ := 4) rfl).trans BitVec.extractLsb'_eq_self
  rw [← hbyte x, hhigh, hlow, hbyte y]

theorem append_nibbles_inj {a b a' b' : BitVec 4} (h : a ++ b = a' ++ b') : a = a' ∧ b = b' :=
  ⟨by simpa only [BitVec.extractLsb'_append_eq_left] using congrArg (BitVec.extractLsb' 4 4) h,
    by simpa only [BitVec.extractLsb'_append_eq_right] using congrArg (BitVec.extractLsb' 0 4) h⟩

/-- The result gives back the nibbles of each stage, from the last to the first. -/
theorem qperm_injective {t : List (List (BitVec 4))} (ht : ∀ i < 4, Function.Injective (nibbleEntry t i)) :
    Function.Injective (qperm t) := by
  intro x y h
  rw [qperm_eq, qperm_eq] at h
  obtain ⟨hb4, ha4⟩ := append_nibbles_inj h
  obtain ⟨ha2, hb2⟩ := nibbleMix_inj (Prod.ext (ht 2 (by decide) ha4) (ht 3 (by decide) hb4))
  obtain ⟨ha0, hb0⟩ := nibbleMix_inj (Prod.ext (ht 0 (by decide) ha2) (ht 1 (by decide) hb2))
  exact byte_eq_of_nibbles ha0 hb0

theorem nibbleEntry_q0Nibbles_injective : ∀ i < 4, Function.Injective (nibbleEntry q0Nibbles i) := by
  simp only [Function.Injective]
  decide +kernel

theorem nibbleEntry_q1Nibbles_injective : ∀ i < 4, Function.Injective (nibbleEntry q1Nibbles i) := by
  simp only [Function.Injective]
  decide +kernel

/-! ### The tabulated permutations (R172) -/

theorem twofishQ0_eq_qperm (x : Byte) : twofishQ0 x = qperm q0Nibbles x := by
  revert x
  decide +kernel

theorem twofishQ1_eq_qperm (x : Byte) : twofishQ1 x = qperm q1Nibbles x := by
  revert x
  decide +kernel

/-- Settles O55: the tables by evaluation on the 256 bytes, and the construction is one-to-one. -/
theorem twofishPermutationsFollowTheirConstruction : Obligations.TwofishPermutationsFollowTheirConstruction := by
  refine ⟨fun x => ⟨twofishQ0_eq_qperm x, twofishQ1_eq_qperm x⟩, fun x y => ⟨fun h => ?_, fun h => ?_⟩⟩
  · rw [twofishQ0_eq_qperm, twofishQ0_eq_qperm] at h
    exact qperm_injective nibbleEntry_q0Nibbles_injective h
  · rw [twofishQ1_eq_qperm, twofishQ1_eq_qperm] at h
    exact qperm_injective nibbleEntry_q1Nibbles_injective h

end Sys2Proof.Machine
end

section
/-! The Twofish schedule (spec/42_twofish.md R178-R180, R185): what TF_RK and TF_SB hold, and that four S-box words sum to `h`,
because the MDS matrix times four bytes is the sum of its columns, each times one of them. -/

namespace Sys2Proof.Machine

/-! ### The round keys (R179) -/

theorem twofishSchedule_rk_getElem (key : TwofishKey) {n : Nat} (hn : n < 40) :
    (twofishSchedule key).rk[n] = twofishK key n := tabulate_getElem 40 _ n hn

theorem repeatByte_eq_mul {n : Nat} (hn : n < 256) : repeatByte n = BitVec.ofNat 32 n * 0x01010101 := by
  revert n
  decide +kernel

theorem roundKeyA_eq (key : TwofishKey) {i : Nat} (hi : i < 20) :
    roundKeyA key i = twofishH (BitVec.ofNat 32 (2 * i) * 0x01010101) (twofishMe key) := by
  rw [roundKeyA, repeatByte_eq_mul (by omega)]

theorem roundKeyB_eq (key : TwofishKey) {i : Nat} (hi : i < 20) :
    roundKeyB key i = rotl32 (twofishH (BitVec.ofNat 32 (2 * i + 1) * 0x01010101) (twofishMo key)) 8 := by
  rw [roundKeyB, repeatByte_eq_mul (by omega)]

theorem twofishK_even (key : TwofishKey) (i : Nat) : twofishK key (2 * i) = roundKeyA key i + roundKeyB key i := by
  have hhalf : 2 * i / 2 = i := by omega
  rw [twofishK, hhalf, if_pos (by omega)]

theorem twofishK_odd (key : TwofishKey) (i : Nat) :
    twofishK key (2 * i + 1) = rotl32 (roundKeyA key i + 2 * roundKeyB key i) 9 := by
  have hhalf : (2 * i + 1) / 2 = i := by omega
  rw [twofishK, hhalf, if_neg (by omega)]

/-- Settles O56: an even and an odd word of R179, with the byte of `h`'s argument repeated by a multiplication. -/
theorem twofishRoundKeysFollowTheirRule : Obligations.TwofishRoundKeysFollowTheirRule := by
  intro key i me mo a b
  have ha : roundKeyA key i = a := roundKeyA_eq key i.isLt
  have hb : roundKeyB key i = b := roundKeyB_eq key i.isLt
  rw [twofishSchedule_rk_getElem, twofishSchedule_rk_getElem, twofishK_even, twofishK_odd, ha, hb]
  exact ⟨rfl, rfl⟩

/-! ### The S-boxes (R178, R180) -/

theorem sboxEntry_twofishSchedule (key : TwofishKey) (j : Fin 4) (x : Byte) :
    sboxEntry (twofishSchedule key) j x = sboxWord (twofishSl key) j x := by
  simp [sboxEntry, twofishSchedule]

theorem loadLe32_eq_loadBe32 (b0 b1 b2 b3 : Byte) : loadLe32 b0 b1 b2 b3 = loadBe32 b3 b2 b1 b0 := rfl

theorem loadLe32_xor (a0 a1 a2 a3 b0 b1 b2 b3 : Byte) :
    loadLe32 (a0 ^^^ b0) (a1 ^^^ b1) (a2 ^^^ b2) (a3 ^^^ b3) = loadLe32 a0 a1 a2 a3 ^^^ loadLe32 b0 b1 b2 b3 := by
  apply word_eq_of_byteBe
  intro j hj
  interval_cases j <;> simp [loadLe32_eq_loadBe32, byteBe_xor]

/-- Column `j` of the MDS matrix times a byte (R173). -/
def mdsColumn (j : Nat) (y : Byte) : Word :=
  loadLe32 (gmul polyMds (mdsEntry 0 j) y) (gmul polyMds (mdsEntry 1 j) y) (gmul polyMds (mdsEntry 2 j) y)
    (gmul polyMds (mdsEntry 3 j) y)

/-- A TF_SB word is a lane of `h` with its MDS column folded in. -/
theorem sboxWord_eq_mdsColumn (sl : List Word) (j : Nat) (x : Byte) : sboxWord sl j x = mdsColumn j (hByte j sl x) := rfl

/-- A row of the MDS matrix times four bytes. -/
theorem gdot_mdsRow {i : Nat} (hi : i < 4) (y0 y1 y2 y3 : Byte) :
    gdot polyMds (mdsRows.getD i []) [y0, y1, y2, y3] =
      gmul polyMds (mdsEntry i 0) y0 ^^^ gmul polyMds (mdsEntry i 1) y1 ^^^ gmul polyMds (mdsEntry i 2) y2 ^^^
        gmul polyMds (mdsEntry i 3) y3 := by
  interval_cases i <;> simp [gdot, xorSum, mdsEntry, mdsRows, BitVec.xor_assoc]

theorem mdsMul_eq_sum_mdsColumn (y0 y1 y2 y3 : Byte) :
    mdsMul [y0, y1, y2, y3] = mdsColumn 0 y0 ^^^ mdsColumn 1 y1 ^^^ mdsColumn 2 y2 ^^^ mdsColumn 3 y3 := by
  simp (disch := decide) only [mdsMul, gdot_mdsRow, loadLe32_xor]
  rfl

theorem twofishG_twofishSchedule (key : TwofishKey) (x : Word) :
    twofishG (twofishSchedule key) x = twofishH x (twofishSl key) := by
  simp only [twofishG, sboxEntry_twofishSchedule, sboxWord_eq_mdsColumn]
  exact (mdsMul_eq_sum_mdsColumn _ _ _ _).symm

/-- Settles O57: the four lookups are `g`'s definition, and their sum is the MDS product that ends `h`. -/
theorem twofishSboxesComputeH : Obligations.TwofishSboxesComputeH :=
  fun key x => ⟨rfl, twofishG_twofishSchedule key x⟩

end Sys2Proof.Machine
end

section
/-! The Twofish block operations (spec/42_twofish.md R182-R184): a decryption round undoes the encryption round of its number
and the other way round, whatever the schedule, because both add the same words F0 and F1 of the two halves they keep. -/

namespace Sys2Proof.Machine

/-! ### Rotations (R116) -/

theorem rotl32_eq_rotateLeft (x : Word) {n : Nat} (hn : n < 32) : rotl32 x n = x.rotateLeft n := by
  rw [rotl32, BitVec.rotateLeft_def, Nat.mod_eq_of_lt hn]

theorem rotr32_eq_rotateRight (x : Word) {n : Nat} (hn : n < 32) : rotr32 x n = x.rotateRight n := by
  rw [rotr32, BitVec.rotateRight_def, Nat.mod_eq_of_lt hn]

theorem rotl32_rotr32 (x : Word) {n : Nat} (hn : n < 32) : rotl32 (rotr32 x n) n = x := by
  rw [rotl32_eq_rotateLeft _ hn, rotr32_eq_rotateRight _ hn]
  ext i hi
  simp only [BitVec.getElem_rotateLeft, BitVec.getElem_rotateRight, Nat.mod_eq_of_lt hn]
  split
  · rw [dif_neg (by omega)]
    congr 1
    omega
  · rw [dif_pos (by omega)]
    congr 1
    omega

theorem rotr32_rotl32 (x : Word) {n : Nat} (hn : n < 32) : rotr32 (rotl32 x n) n = x := by
  rw [rotl32_eq_rotateLeft _ hn, rotr32_eq_rotateRight _ hn]
  ext i hi
  simp only [BitVec.getElem_rotateLeft, BitVec.getElem_rotateRight, Nat.mod_eq_of_lt hn]
  split
  · rw [dif_neg (by omega)]
    congr 1
    omega
  · rw [dif_pos (by omega)]
    congr 1
    omega

/-! ### Rounds (R182, R184) -/

theorem block_eq {a b : Vector Word 4} (h0 : a[0] = b[0]) (h1 : a[1] = b[1]) (h2 : a[2] = b[2]) (h3 : a[3] = b[3]) :
    a = b := by
  refine Vector.ext fun i hi => ?_
  interval_cases i <;> assumption

theorem twofishUnround_twofishRound (s : TwofishSchedule) (x : Vector Word 4) (r : Nat) :
    twofishUnround s (twofishRound s x r) r = x := by
  apply block_eq <;> simp [twofishUnround, twofishRound, rotl32_rotr32, rotr32_rotl32, xor_cancel_right]

theorem twofishRound_twofishUnround (s : TwofishSchedule) (x : Vector Word 4) (r : Nat) :
    twofishRound s (twofishUnround s x r) r = x := by
  apply block_eq <;> simp [twofishUnround, twofishRound, rotl32_rotr32, rotr32_rotl32, xor_cancel_right]

/-- Steps taken in order and undone in the reverse order. -/
theorem foldl_reverse_foldl {α β : Type} {f g : β → α → β} (hundo : ∀ b a, g (f b a) a = b) (l : List α) (b : β) :
    l.reverse.foldl g (l.foldl f b) = b := by
  induction l generalizing b with
  | nil => rfl
  | cons a l ih => rw [List.foldl_cons, List.reverse_cons, List.foldl_append, ih, List.foldl_cons, List.foldl_nil, hundo]

/-! ### Whitening (R183, R184) -/

/-- The input whitening of a block with the round keys from `K_n` on. -/
def twofishWhiten (s : TwofishSchedule) (n : Nat) (d : Vector Word 4) : Vector Word 4 :=
  #v[bswap32 d[0] ^^^ rkWord s n, bswap32 d[1] ^^^ rkWord s (n + 1), bswap32 d[2] ^^^ rkWord s (n + 2),
    bswap32 d[3] ^^^ rkWord s (n + 3)]

/-- The output whitening of a state with the round keys from `K_n` on. -/
def twofishUnwhiten (s : TwofishSchedule) (n : Nat) (x : Vector Word 4) : Vector Word 4 :=
  #v[bswap32 (x[0] ^^^ rkWord s n), bswap32 (x[1] ^^^ rkWord s (n + 1)), bswap32 (x[2] ^^^ rkWord s (n + 2)),
    bswap32 (x[3] ^^^ rkWord s (n + 3))]

/-- The exchange of the two halves between the rounds and the ciphertext. -/
def swapHalves (x : Vector Word 4) : Vector Word 4 := #v[x[2], x[3], x[0], x[1]]

theorem twofishUnwhiten_twofishWhiten (s : TwofishSchedule) (n : Nat) (d : Vector Word 4) :
    twofishUnwhiten s n (twofishWhiten s n d) = d := by
  apply block_eq <;> simp [twofishUnwhiten, twofishWhiten, xor_cancel_right, bswap32_bswap32]

theorem twofishWhiten_twofishUnwhiten (s : TwofishSchedule) (n : Nat) (x : Vector Word 4) :
    twofishWhiten s n (twofishUnwhiten s n x) = x := by
  apply block_eq <;> simp [twofishUnwhiten, twofishWhiten, xor_cancel_right, bswap32_bswap32]

theorem swapHalves_swapHalves (x : Vector Word 4) : swapHalves (swapHalves x) = x :=
  block_eq rfl rfl rfl rfl

/-! ### The round trip -/

theorem twofishUnwhiten_swapHalves (s : TwofishSchedule) (x : Vector Word 4) : twofishUnwhiten s 4 (swapHalves x) =
    #v[bswap32 (x[2] ^^^ rkWord s 4), bswap32 (x[3] ^^^ rkWord s 5), bswap32 (x[0] ^^^ rkWord s 6),
      bswap32 (x[1] ^^^ rkWord s 7)] := rfl

theorem twofishEncrypt_eq (s : TwofishSchedule) (d : Vector Word 4) : twofishEncrypt s d =
    twofishUnwhiten s 4 (swapHalves ((List.range 16).foldl (twofishRound s) (twofishWhiten s 0 d))) := by
  rw [twofishUnwhiten_swapHalves]
  rfl

theorem twofishDecrypt_eq (s : TwofishSchedule) (d : Vector Word 4) : twofishDecrypt s d =
    twofishUnwhiten s 0 ((List.range 16).reverse.foldl (twofishUnround s) (swapHalves (twofishWhiten s 4 d))) := rfl

/-- Settles O58: each stage of one direction meets the stage of the other that it undoes. -/
theorem twofishRoundTrip : Obligations.TwofishRoundTrip := by
  intro s d
  constructor
  · rw [twofishDecrypt_eq, twofishEncrypt_eq, twofishWhiten_twofishUnwhiten, swapHalves_swapHalves,
      foldl_reverse_foldl (twofishUnround_twofishRound s), twofishUnwhiten_twofishWhiten]
  · have hrounds := foldl_reverse_foldl (twofishRound_twofishUnround s) (List.range 16).reverse
    rw [List.reverse_reverse] at hrounds
    rw [twofishEncrypt_eq, twofishDecrypt_eq, twofishWhiten_twofishUnwhiten, hrounds, swapHalves_swapHalves,
      twofishUnwhiten_twofishWhiten]

end Sys2Proof.Machine
end

section
/-! The SHA compressions (spec/43_sha.md R213, R217, R218): the model extends a schedule held newest first and folds the
rounds over its words. Both compressions have this one shape, so the recurrences of the schedule and of the working variables
are proved once, for any rule of the next word and any round. -/

namespace Sys2Proof.Machine

/-! ### Message schedules (R213, R217) -/

/-- The schedule that starts with the words `ws` and goes on with `n` words of the rule `next`, oldest first. -/
def messageSchedule (next : List Word → Word) (n : Nat) (ws : List Word) : List Word :=
  (extendSchedule next n ws.reverse).reverse

theorem sha1Words_eq (block : Vector Word 16) : sha1Words block = messageSchedule sha1NextWord 64 block.toList := rfl

theorem sha256Words_eq (block : Vector Word 16) : sha256Words block = messageSchedule sha256NextWord 48 block.toList := rfl

theorem messageSchedule_zero (next : List Word → Word) (ws : List Word) : messageSchedule next 0 ws = ws :=
  List.reverse_reverse ws

theorem messageSchedule_succ (next : List Word → Word) (n : Nat) (ws : List Word) :
    messageSchedule next (n + 1) ws = messageSchedule next n (ws ++ [next ws.reverse]) := by
  rw [messageSchedule, messageSchedule, extendSchedule, List.reverse_concat]

theorem length_messageSchedule (next : List Word → Word) (n : Nat) (ws : List Word) :
    (messageSchedule next n ws).length = ws.length + n := by
  induction n generalizing ws with
  | zero => rw [messageSchedule_zero, Nat.add_zero]
  | succ n ih => rw [messageSchedule_succ, ih, List.length_append, List.length_singleton, Nat.add_assoc, Nat.add_comm 1]

/-- The words of a schedule's start stay. -/
theorem messageSchedule_eq_append (next : List Word → Word) (n : Nat) (ws : List Word) :
    ∃ later, messageSchedule next n ws = ws ++ later := by
  induction n generalizing ws with
  | zero => exact ⟨[], by rw [messageSchedule_zero, List.append_nil]⟩
  | succ n ih =>
    obtain ⟨later, hlater⟩ := ih (ws ++ [next ws.reverse])
    exact ⟨next ws.reverse :: later, by rw [messageSchedule_succ, hlater, List.append_assoc, List.singleton_append]⟩

/-- A later word is the rule's value on all the words before it, newest first. -/
theorem messageSchedule_getD_next (next : List Word → Word) (n : Nat) {ws : List Word} {t : Nat} (hstart : ws.length ≤ t)
    (hend : t < ws.length + n) :
    (messageSchedule next n ws).getD t 0 = next ((messageSchedule next n ws).take t).reverse := by
  induction n generalizing ws with
  | zero => omega
  | succ n ih =>
    rw [messageSchedule_succ]
    by_cases hfirst : t = ws.length
    · subst hfirst
      obtain ⟨later, hlater⟩ := messageSchedule_eq_append next n (ws ++ [next ws.reverse])
      rw [hlater, List.append_assoc, List.take_left, List.getD_append_right _ _ _ _ le_rfl, Nat.sub_self]
      rfl
    · apply ih <;> rw [List.length_append, List.length_singleton] <;> omega

/-- Entry `i` of the words before `W[t]`, newest first, is `W[t-1-i]`. -/
theorem take_reverse_getD {ws : List Word} {t i : Nat} (ht : t ≤ ws.length) (hi : i < t) :
    (ws.take t).reverse.getD i 0 = ws.getD (t - (i + 1)) 0 := by
  have hlen : (ws.take t).length = t := List.length_take_of_le ht
  rw [List.getD_eq_getElem _ _ (by rw [List.length_reverse, hlen]; exact hi), List.getElem_reverse, List.getElem_take,
    List.getD_eq_getElem _ _ (by omega)]
  congr 1
  omega

/-- `W[0..15]` is the block (R211). -/
theorem messageSchedule_getD_block (next : List Word → Word) (n : Nat) (block : Vector Word 16) (t : Fin 16) :
    (messageSchedule next n block.toList).getD t 0 = block[t] := by
  have ht : t < block.toList.length := by rw [Vector.length_toList]; exact t.isLt
  obtain ⟨later, hlater⟩ := messageSchedule_eq_append next n block.toList
  rw [hlater, List.getD_append _ _ _ _ ht, List.getD_eq_getElem _ _ ht, Vector.getElem_toList]
  rfl

theorem length_sha1Words (block : Vector Word 16) : (sha1Words block).length = 80 := by
  rw [sha1Words_eq, length_messageSchedule, Vector.length_toList]

theorem length_sha256Words (block : Vector Word 16) : (sha256Words block).length = 64 := by
  rw [sha256Words_eq, length_messageSchedule, Vector.length_toList]

theorem sha1Words_getD_next (block : Vector Word 16) {t : Nat} (hstart : 16 ≤ t) (hend : t < 80) :
    (sha1Words block).getD t 0 = rotl32 ((sha1Words block).getD (t - 3) 0 ^^^ (sha1Words block).getD (t - 8) 0 ^^^
      (sha1Words block).getD (t - 14) 0 ^^^ (sha1Words block).getD (t - 16) 0) 1 := by
  have hlen : t ≤ (sha1Words block).length := by rw [length_sha1Words]; omega
  have hnext : (sha1Words block).getD t 0 = sha1NextWord ((sha1Words block).take t).reverse :=
    messageSchedule_getD_next _ _ (by rw [Vector.length_toList]; exact hstart) (by rw [Vector.length_toList]; exact hend)
  rw [hnext, sha1NextWord, take_reverse_getD hlen (by omega), take_reverse_getD hlen (by omega),
    take_reverse_getD hlen (by omega), take_reverse_getD hlen (by omega)]

theorem sha256Words_getD_next (block : Vector Word 16) {t : Nat} (hstart : 16 ≤ t) (hend : t < 64) :
    (sha256Words block).getD t 0 = sha256Sigma1 ((sha256Words block).getD (t - 2) 0) + (sha256Words block).getD (t - 7) 0 +
      sha256Sigma0 ((sha256Words block).getD (t - 15) 0) + (sha256Words block).getD (t - 16) 0 := by
  have hlen : t ≤ (sha256Words block).length := by rw [length_sha256Words]; omega
  have hnext : (sha256Words block).getD t 0 = sha256NextWord ((sha256Words block).take t).reverse :=
    messageSchedule_getD_next _ _ (by rw [Vector.length_toList]; exact hstart) (by rw [Vector.length_toList]; exact hend)
  rw [hnext, sha256NextWord, take_reverse_getD hlen (by omega), take_reverse_getD hlen (by omega),
    take_reverse_getD hlen (by omega), take_reverse_getD hlen (by omega)]

/-! ### Rounds (R213, R218) -/

/-- The working variables after the rounds over `ws`, numbered from `t` on. -/
def foldRounds {α : Type} (round : Nat → Word → α → α) (t : Nat) (ws : List Word) (v : α) : α :=
  (ws.zipIdx t).foldl (fun u p => round p.2 p.1 u) v

theorem sha1Rounds_eq (t : Nat) (ws : List Word) (v : Sha1Vars) : sha1Rounds t ws v = foldRounds sha1Round t ws v := by
  induction ws generalizing t v with
  | nil => rfl
  | cons w ws ih => exact ih (t + 1) (sha1Round t w v)

theorem sha256Rounds_eq (t : Nat) (ws : List Word) (v : Sha256Vars) :
    sha256Rounds t ws v = foldRounds sha256Round t ws v := by
  induction ws generalizing t v with
  | nil => rfl
  | cons w ws ih => exact ih (t + 1) (sha256Round t w v)

/-- One word more is one round more. -/
theorem foldRounds_take_succ {α : Type} (round : Nat → Word → α → α) {ws : List Word} {t : Nat} (ht : t < ws.length)
    (v : α) :
    foldRounds round 0 (ws.take (t + 1)) v = round t (ws.getD t 0) (foldRounds round 0 (ws.take t) v) := by
  have hlen : (ws.take t).length = t := List.length_take_of_le ht.le
  rw [foldRounds, List.take_succ_eq_append_getElem ht, List.zipIdx_append, List.foldl_append, hlen, Nat.zero_add,
    List.getD_eq_getElem _ _ ht]
  rfl

/-- The working variables of SHA-1 after `t` rounds over the block's schedule. -/
def sha1VarsAfter (h : Vector Word 5) (block : Vector Word 16) (t : Nat) : Sha1Vars :=
  foldRounds sha1Round 0 ((sha1Words block).take t) ⟨h[0], h[1], h[2], h[3], h[4]⟩

/-- The working variables of SHA-256 after `t` rounds over the block's schedule. -/
def sha256VarsAfter (h : Vector Word 8) (block : Vector Word 16) (t : Nat) : Sha256Vars :=
  foldRounds sha256Round 0 ((sha256Words block).take t) ⟨h[0], h[1], h[2], h[3], h[4], h[5], h[6], h[7]⟩

theorem sha1VarsAfter_succ (h : Vector Word 5) (block : Vector Word 16) {t : Nat} (ht : t < 80) :
    sha1VarsAfter h block (t + 1) = sha1Round t ((sha1Words block).getD t 0) (sha1VarsAfter h block t) :=
  foldRounds_take_succ sha1Round (by rw [length_sha1Words]; exact ht) _

theorem sha256VarsAfter_succ (h : Vector Word 8) (block : Vector Word 16) {t : Nat} (ht : t < 64) :
    sha256VarsAfter h block (t + 1) = sha256Round t ((sha256Words block).getD t 0) (sha256VarsAfter h block t) :=
  foldRounds_take_succ sha256Round (by rw [length_sha256Words]; exact ht) _

theorem sha1Compress_eq (h : Vector Word 5) (block : Vector Word 16) :
    sha1Compress h block = #v[h[0] + (sha1VarsAfter h block 80).a, h[1] + (sha1VarsAfter h block 80).b,
      h[2] + (sha1VarsAfter h block 80).c, h[3] + (sha1VarsAfter h block 80).d, h[4] + (sha1VarsAfter h block 80).e] := by
  rw [sha1VarsAfter, List.take_of_length_le (length_sha1Words block).le, ← sha1Rounds_eq]
  rfl

theorem sha256Compress_eq (h : Vector Word 8) (block : Vector Word 16) :
    sha256Compress h block = #v[h[0] + (sha256VarsAfter h block 64).a, h[1] + (sha256VarsAfter h block 64).b,
      h[2] + (sha256VarsAfter h block 64).c, h[3] + (sha256VarsAfter h block 64).d, h[4] + (sha256VarsAfter h block 64).e,
      h[5] + (sha256VarsAfter h block 64).f, h[6] + (sha256VarsAfter h block 64).g,
      h[7] + (sha256VarsAfter h block 64).h] := by
  rw [sha256VarsAfter, List.take_of_length_le (length_sha256Words block).le, ← sha256Rounds_eq]
  rfl

/-- Settles O59: `W` is the model's schedule, and the variables are those after `t` of its rounds. -/
theorem sha1CompressionFollowsItsRecurrences : Obligations.Sha1CompressionFollowsItsRecurrences := by
  refine ⟨fun h block => ⟨fun t => (sha1Words block).getD t 0, sha1VarsAfter h block, ?start, ?next, rfl, ?rounds,
    sha1Compress_eq h block⟩, by decide +kernel, by decide +kernel⟩
  case start => exact messageSchedule_getD_block _ _ block
  case next => exact fun t => sha1Words_getD_next block
  case rounds => exact fun t => sha1VarsAfter_succ h block

/-- Settles O60: as for SHA-1, with T1 and T2 those that the round computes. -/
theorem sha256CompressionFollowsItsRecurrences : Obligations.Sha256CompressionFollowsItsRecurrences := by
  refine ⟨fun h block => ⟨fun t => (sha256Words block).getD t 0, sha256VarsAfter h block, ?start, ?next, rfl, ?rounds,
    sha256Compress_eq h block⟩, by decide +kernel, by decide +kernel⟩
  case start => exact messageSchedule_getD_block _ _ block
  case next => exact fun t => sha256Words_getD_next block
  case rounds => exact fun t ht => ⟨_, _, rfl, rfl, sha256VarsAfter_succ h block ht⟩

end Sys2Proof.Machine
end

section
/-! The hash commands (spec/43_sha.md R214, R219): what a command's meaning does from IDLE; with itself in flight it commits,
as every command does (`exec_inFlight`). -/

namespace Sys2Proof.Machine

theorem exec_sha1Comp_idle {s : State} (hidle : s.seq = .idle) :
    exec .sha1Comp s = .next (s.accept (.sha1Comp (snapDigest5 s) s.msg)) := by
  simp only [exec, execSha1Comp, hidle]

theorem exec_sha256Comp_idle {s : State} (hidle : s.seq = .idle) :
    exec .sha256Comp s = .next (s.accept (.sha256Comp s.dig s.msg)) := by
  simp only [exec, execSha256Comp, hidle]

/-- Settles O46: the issue takes the snapshot of DIG0-DIG4 and MSG; the commit stores five words and keeps DIG5-DIG7. -/
theorem sha1CompressCompletes : Obligations.Sha1CompressCompletes := fun _ =>
  ⟨exec_sha1Comp_idle, fun _ _ hf => exec_inFlight hf⟩

/-- Settles O47: the issue takes the snapshot of DIG0-DIG7 and MSG; the commit stores all eight words. -/
theorem sha256CompressCompletes : Obligations.Sha256CompressCompletes := fun _ =>
  ⟨exec_sha256Comp_idle, fun _ _ hf => exec_inFlight hf⟩

end Sys2Proof.Machine
end

section
/-! The sequencer (spec/44_control.md R230-R236): what takes SEQ out of IDLE and back, and that a command in flight stays
until its commit and reaches it. NOP and CLEAR_ALL, the commands of no engine, are the last two statements. -/

namespace Sys2Proof.Machine

/-! ### The commit (R234) -/

theorem commitEvent_inFlight {s : State} {f : Flight} (hf : s.seq = .busy f) : commitEvent s = exec f.instr s := by
  simp only [commitEvent, hf]

theorem commitEvent_eq_finish {s : State} {f : Flight} (hf : s.seq = .busy f) :
    commitEvent s = .next (commitPart f s).finish :=
  (commitEvent_inFlight hf).trans (exec_inFlight hf)

theorem step_of_inputs_nil {s : State} (hin : s.inputs = []) : step s = commitEvent s := by
  rw [step, nextEvent, hin]

theorem step_of_inputs_cons {s : State} {e : Event} {rest : List Event} (hin : s.inputs = e :: rest) :
    step s = perform e { s with inputs := rest } := by
  rw [step, nextEvent, hin]

/-- Settles O6: either way the step is the commit event, which runs the command in flight. -/
theorem stepCommitsTheCommandInFlight : Obligations.StepCommitsTheCommandInFlight := fun s _ hf =>
  ⟨fun rest hin => (step_of_inputs_cons hin).trans (commitEvent_inFlight (s := { s with inputs := rest }) hf),
    fun hin => (step_of_inputs_nil hin).trans (commitEvent_inFlight hf)⟩

/-- Settles O25: the commit part of each flight, then the end that all commits share. -/
theorem commitOfEveryOperation : Obligations.CommitOfEveryOperation := by
  intro s f hf
  rw [commitEvent_eq_finish hf]
  cases f <;> rfl

/-! ### The transitions of SEQ (R230) -/

/-- An issue that changes SEQ found it IDLE, and accepted the command that the word decodes to (R231). -/
theorem issue_accepts_of_seq_ne {c : Word} {s t : State} (h : issue c s = .next t) (hne : t.seq ≠ s.seq) :
    s.seq = .idle ∧ ∃ i f, decode c = .op i ∧ f.instr = i ∧ t = s.accept f := by
  rcases issue_cases h with ⟨hidle, i, f, hdecode, _, hinstr, ht⟩ | ⟨code, _, rfl⟩
  · exact ⟨hidle, i, f, hdecode, hinstr, ht⟩
  · exact absurd rfl hne

/-- With a CMD write as its next event, a step is the issue of the word written (R68). -/
theorem step_of_writing_cmd {s : State} {c : Word} (hw : Writing s .cmd c) :
    ∃ rest, step s = issue c (State.respond { s with inputs := rest } .written) := by
  obtain ⟨hrst, rest, hin⟩ := hw
  exact ⟨rest, (step_of_inputs_cons hin).trans (perform_write_cmd (s := { s with inputs := rest }) c hrst)⟩

/-- Settles O24: of the effects of a step only an accepted CMD write, a commit and a reset touch SEQ. -/
theorem sequencerHasNoOtherTransition : Obligations.SequencerHasNoOtherTransition := by
  intro s t hstep hne
  cases step_effect hstep with
  | unchanged | rejected | released => exact absurd rfl hne
  | written rest r v =>
    obtain ⟨hseq, _⟩ := writeReg_frame { s with inputs := rest, response := .written } r v
    exact absurd hseq hne
  | accepted rest c _ hw =>
    obtain ⟨rest', hissue⟩ := step_of_writing_cmd hw
    obtain ⟨hidle, i, f, hdecode, hinstr, ht⟩ := issue_accepts_of_seq_ne (hissue.symm.trans hstep) hne
    exact .inl ⟨hidle, c, i, f, hw, hdecode, hinstr, congrArg State.seq ht, congrArg State.done ht⟩
  | committed rest f hc => exact .inr (.inl ⟨f, hc, rfl, rfl⟩)
  | reset rest hr => exact .inr (.inr ⟨hr, rfl⟩)

/-! ### A command in flight reaches its commit (R236) -/

/-- Over an order without changes of RST, each host access is one step closer to the commit, which comes with the first
`commit` of the order or at its end. -/
theorem run_order_reaches_commit {s : State} {f : Flight} (es : List Event) (hf : s.seq = .busy f)
    (hes : ∀ e ∈ es, e.isNotReset = true) :
    ∃ k t, k ≤ es.length + 1 ∧ Sys2Proof.core.run k { s with inputs := es } = .next t ∧ t.seq = .idle ∧
      t.done = true := by
  induction es generalizing s with
  | nil =>
    have hstep : step { s with inputs := [] } = .next (commitPart f { s with inputs := [] }).finish :=
      commitEvent_eq_finish (s := { s with inputs := [] }) hf
    exact ⟨1, _, le_rfl, run_succ_next hstep, rfl, rfl⟩
  | cons e es ih =>
    obtain ⟨he, hrest⟩ := List.forall_mem_cons.mp hes
    obtain ⟨u, hu⟩ := perform_answers e s
    cases e with
    | commit =>
      exact ⟨1, _, by simp, run_succ_order_cons 0 es (e := .commit) (commitEvent_eq_finish hf), rfl, rfl⟩
    | hostRead | hostWrite =>
      obtain ⟨hseq, _⟩ := perform_host_sameToCommit hf (by rfl) hu
      obtain ⟨k, t, hk, hrun, hend⟩ := ih (hseq.trans hf) hrest
      exact ⟨k + 1, t, Nat.succ_le_succ hk, (run_succ_order_cons k es hu).trans hrun, hend⟩
    | rst level => cases he

/-- Settles O29: the order is the state's own. -/
theorem everyAcceptedCommandCommits : Obligations.EveryAcceptedCommandCommits := fun s _ hf hnoreset =>
  run_order_reaches_commit s.inputs hf hnoreset

/-! ### The count of a command in flight (R235, R236) -/

theorem timedEvent_left (e : Event) (t : TimedState) :
    (timedEvent e t).left = leftAfter t.core.seq (timedEvent e t).core.seq t.left := by
  obtain ⟨s, hs⟩ := perform_answers e t.core
  simp only [timedEvent, hs]

/-- The event that takes SEQ out of IDLE starts the count at the command's latency. -/
theorem timedEvent_issue_left {e : Event} {t : TimedState} {f : Flight} (hidle : t.core.seq = .idle)
    (hf : (timedEvent e t).core.seq = .busy f) : (timedEvent e t).left = Config.latency (latencyOf f.instr) := by
  rw [timedEvent_left, hidle, hf]
  rfl

theorem latency_pos (l : Latency) : 0 < Config.latency l := Nat.succ_pos _

/-- `f` is in flight with `n` cycles left until its commit. -/
def InFlightFor (f : Flight) (n : Nat) (t : TimedState) : Prop := t.core.seq = .busy f ∧ t.left = n

/-- No host access prevents, delays or speeds up the commit. -/
theorem InFlightFor.host {f : Flight} {n : Nat} {t : TimedState} {e : Event} (h : InFlightFor f n t)
    (he : e.isHost = true) : InFlightFor f n (timedEvent e t) := by
  obtain ⟨hf, hleft⟩ := h
  obtain ⟨hseq, _⟩ := perform_host_sameToCommit hf he (timedEvent_core e t)
  have hf' : (timedEvent e t).core.seq = .busy f := hseq.trans hf
  refine ⟨hf', ?_⟩
  rw [timedEvent_left, hf, hf']
  exact hleft

/-- A clock edge before the last takes one cycle off. -/
theorem InFlightFor.clock {f : Flight} {n : Nat} {t : TimedState} (h : InFlightFor f (n + 2) t) :
    InFlightFor f (n + 1) (timedClock t) := by
  obtain ⟨hf, hleft⟩ := h
  simp only [timedClock, hleft]
  exact ⟨hf, rfl⟩

/-- The clock edge that completes the count commits the command. -/
theorem InFlightFor.last_clock {f : Flight} {t : TimedState} (h : InFlightFor f 1 t) :
    timedClock t = { core := (commitPart f t.core).finish, left := 0 } := by
  obtain ⟨hf, hleft⟩ := h
  simp only [timedClock, hleft, commitEvent_eq_finish hf]

/-- A timed run without changes of RST takes one cycle off for each clock edge, as long as the count lasts. -/
theorem InFlightFor.run {f : Flight} {n : Nat} {t : TimedState} (inputs : List TimedInput)
    (h : InFlightFor f (n + 1 + inputs.count .clock) t) (hnoreset : ∀ level, TimedInput.event (.rst level) ∉ inputs) :
    InFlightFor f (n + 1) (timedRun t inputs) := by
  induction inputs generalizing t with
  | nil => exact h
  | cons i is ih =>
    have hrest (level : Bool) : TimedInput.event (.rst level) ∉ is := fun hmem =>
      hnoreset level (List.mem_cons_of_mem i hmem)
    refine ih (t := timedStep t i) ?_ hrest
    cases i with
    | clock =>
      have hcycles : n + 1 + (is.count .clock + 1) = n + is.count .clock + 2 := by omega
      rw [List.count_cons_self, hcycles] at h
      rw [Nat.add_right_comm]
      exact h.clock
    | event e =>
      rw [List.count_cons_of_ne (by simp)] at h
      cases e with
      | commit => exact h
      | hostRead | hostWrite => exact h.host rfl
      | rst level => exact absurd List.mem_cons_self (hnoreset level)

/-- Settles O31: the count starts at the latency, and after all but one of its cycles the next clock edge commits. -/
theorem commitFallsExactlyAtItsLatency : Obligations.CommitFallsExactlyAtItsLatency := by
  refine ⟨fun e t f hidle hf => ⟨timedEvent_issue_left hidle hf, latency_pos _⟩, ?_⟩
  rintro t f n inputs hf hleft hnoreset rfl
  have hlast : InFlightFor f 1 (timedRun t inputs) :=
    InFlightFor.run (n := 0) inputs ⟨hf, by rw [hleft, Nat.zero_add, Nat.add_comm]⟩ hnoreset
  have hcommit : timedRun t (inputs ++ [.clock]) =
      { core := (commitPart f (timedRun t inputs).core).finish, left := 0 } := by
    rw [timedRun, List.foldl_append]
    exact hlast.last_clock
  rw [hcommit]
  exact ⟨hlast.1, rfl, rfl⟩

/-! ### The commands of no engine (R232, R233) -/

theorem exec_nop_idle {s : State} (hidle : s.seq = .idle) : exec .nop s = .next (s.accept .nop) := by
  simp only [exec, execNop, hidle]

theorem exec_clearAll_idle {s : State} (hidle : s.seq = .idle) : exec .clearAll s = .next (s.accept .clearAll) := by
  simp only [exec, execClearAll, hidle]

/-- Settles O37: NOP has no snapshot and no commit part. -/
theorem nopCompletes : Obligations.NopCompletes := fun _ => ⟨exec_nop_idle, fun hf => exec_inFlight hf⟩

/-- Settles O48: the three clearings of the commit give every register and array that they reach its reset value. -/
theorem clearAllCompletes : Obligations.ClearAllCompletes := fun _ => ⟨exec_clearAll_idle, fun hf => exec_inFlight hf⟩

end Sys2Proof.Machine
end

section
/-! Rejections (spec/60_exceptions.md R260-R269): the effect of a rejection, the cause that each CMD write is rejected for,
and that nothing stops the core. -/

namespace Sys2Proof

/-! ### The words of BAD_KLEN (R262) -/

theorem decodeFields_eq_badKlen_iff {op : Byte} {klen : BitVec 2} :
    decodeFields op klen = .badKlen ↔ op = 0x11 ∧ klen = 0b11 := by
  constructor
  · intro h
    have hanswer := decodeFields_answers op klen
    rw [h] at hanswer
    cases hanswer with
    | badKlen hop hklen => exact ⟨hop, hklen⟩
  · rintro ⟨rfl, rfl⟩
    rfl

theorem decode_eq_badKlen_iff {c : Word} :
    decode c = .badKlen ↔ rsvdField c = 0 ∧ opField c = 0x11 ∧ klenField c = 0b11 := by
  rw [← decodeFields_eq_badKlen_iff]
  unfold decode
  split <;> simp [*]

theorem wellFormed_or_eq_tfKey (i : Instr) : i.WellFormed ∨ i = .tfKey 0b11 := by
  cases i with
  | tfKey klen => exact (ne_or_eq klen 0b11).imp_right (congrArg Instr.tfKey)
  | _ => exact .inl trivial

/-- A term that names no operation still has a word, which the decoder answers with BAD_KLEN (R94, R98). -/
theorem decode_encode_cases (i : Instr) : decode (encode i) = .op i ∨ decode (encode i) = .badKlen := by
  rcases wellFormed_or_eq_tfKey i with hwf | rfl
  · exact .inl (decode_encode hwf)
  · exact .inr (by decide)

end Sys2Proof

namespace Sys2Proof.Machine

/-! ### The effect of a rejection (R266) -/

theorem cmdError_of_not_err {s : State} (code : ErrCode) (herr : s.err = false) :
    s.cmdError code = { s with err := true, errcode := code } := by
  simp [State.cmdError, herr]

/-- While an error is pending, a rejection changes nothing at all. -/
theorem cmdError_of_err {s : State} (code : ErrCode) (herr : s.err = true) : s.cmdError code = s := by
  cases s
  cases herr
  rfl

theorem cmdError_errcode_ne {s : State} {code c : ErrCode} (hs : s.errcode ≠ c) (hcode : code ≠ c) :
    (s.cmdError code).errcode ≠ c := by
  rw [State.cmdError_errcode]
  split
  · exact hs
  · exact hcode

/-- Settles O21: a later rejection finds the error of the first one pending. -/
theorem rejectionRecordsTheFirstCode : Obligations.RejectionRecordsTheFirstCode := fun s code later _ =>
  ⟨cmdError_of_not_err code, cmdError_of_err code, cmdError_of_err later (s.cmdError_err code),
    statusW1C_clears_errors (s.cmdError code)⟩

/-! ### The cause of a rejection (R261-R265) -/

theorem issue_of_busy {s : State} {f : Flight} (c : Word) (hf : s.seq = .busy f) :
    issue c s = .next (s.cmdError .cmdBusy) := by
  simp only [issue, hf]

theorem issue_of_seq_ne_idle {s : State} (c : Word) (hne : s.seq ≠ .idle) : issue c s = .next (s.cmdError .cmdBusy) := by
  cases hf : s.seq with
  | idle => exact absurd hf hne
  | busy f => exact issue_of_busy c hf

theorem issue_of_decode_badKlen {c : Word} {s : State} (hidle : s.seq = .idle) (hdecode : decode c = .badKlen) :
    issue c s = .next (s.cmdError .badKlen) := by
  simp only [issue, hidle, hdecode]

/-- A cipher command on an engine with no schedule is rejected (R264). -/
theorem exec_idle_of_unkeyed {i : Instr} {s : State} (hidle : s.seq = .idle) (hkeyed : Unkeyed i s) :
    exec i s = .next (s.cmdError .notKeyed) := by
  cases i with
  | sqEnc => exact (exec_sqEnc_idle hidle).trans (if_neg (Bool.eq_false_iff.mp hkeyed))
  | sqDec => exact (exec_sqDec_idle hidle).trans (if_neg (Bool.eq_false_iff.mp hkeyed))
  | tfEnc => exact (exec_tfEnc_idle hidle).trans (if_neg (Bool.eq_false_iff.mp hkeyed))
  | tfDec => exact (exec_tfDec_idle hidle).trans (if_neg (Bool.eq_false_iff.mp hkeyed))
  | _ => exact hkeyed.elim

/-- Every supported KLEN selects a key to snapshot (R94). -/
theorem snapTwofishKey_of_supported {klen : BitVec 2} (h : KlenSupported klen) (s : State) :
    ∃ key, snapTwofishKey klen s = some key := by
  have hklen : klen = 0b00 ∨ klen = 0b01 ∨ klen = 0b10 := by revert klen; decide
  rcases hklen with rfl | rfl | rfl <;> exact ⟨_, rfl⟩

/-- Every other operation is accepted from IDLE, with its own snapshot (R231). -/
theorem exec_idle_of_keyed {i : Instr} {s : State} (hwf : i.WellFormed) (hidle : s.seq = .idle) (hkeyed : ¬ Unkeyed i s) :
    ∃ f, f.instr = i ∧ exec i s = .next (s.accept f) := by
  cases i with
  | nop => exact ⟨_, rfl, exec_nop_idle hidle⟩
  | sqKey => exact ⟨_, rfl, exec_sqKey_idle hidle⟩
  | sqEnc => exact ⟨_, rfl, (exec_sqEnc_idle hidle).trans (if_pos (Bool.eq_true_of_not_eq_false hkeyed))⟩
  | sqDec => exact ⟨_, rfl, (exec_sqDec_idle hidle).trans (if_pos (Bool.eq_true_of_not_eq_false hkeyed))⟩
  | sqClear => exact ⟨_, rfl, exec_sqClear_idle hidle⟩
  | tfKey klen =>
    obtain ⟨key, hkey⟩ := snapTwofishKey_of_supported hwf s
    exact ⟨.tfKey key, congrArg Instr.tfKey (snapTwofishKey_klen hkey), exec_tfKey_accept hkey hidle⟩
  | tfEnc => exact ⟨_, rfl, (exec_tfEnc_idle hidle).trans (if_pos (Bool.eq_true_of_not_eq_false hkeyed))⟩
  | tfDec => exact ⟨_, rfl, (exec_tfDec_idle hidle).trans (if_pos (Bool.eq_true_of_not_eq_false hkeyed))⟩
  | tfClear => exact ⟨_, rfl, exec_tfClear_idle hidle⟩
  | sha1Comp => exact ⟨_, rfl, exec_sha1Comp_idle hidle⟩
  | sha256Comp => exact ⟨_, rfl, exec_sha256Comp_idle hidle⟩
  | clearAll => exact ⟨_, rfl, exec_clearAll_idle hidle⟩

theorem issue_of_unkeyed {c : Word} {i : Instr} {s : State} (hidle : s.seq = .idle) (hdecode : decode c = .op i)
    (hkeyed : Unkeyed i s) : issue c s = .next (s.cmdError .notKeyed) :=
  (issue_of_decode_op hidle hdecode).trans (exec_idle_of_unkeyed hidle hkeyed)

theorem issue_of_keyed {c : Word} {i : Instr} {s : State} (hidle : s.seq = .idle) (hdecode : decode c = .op i)
    (hkeyed : ¬ Unkeyed i s) : ∃ f, f.instr = i ∧ issue c s = .next (s.accept f) := by
  obtain ⟨hwf, _⟩ := (decodeExactlyInvertsEncode c i).mp hdecode
  rw [issue_of_decode_op hidle hdecode]
  exact exec_idle_of_keyed hwf hidle hkeyed

/-- Settles O4: RSVD, OP and KLEN single the word out, and the issue of it changes nothing but ERR and ERRCODE. -/
theorem unsupportedKeyLengthIsRejected : Obligations.UnsupportedKeyLengthIsRejected :=
  ⟨fun _ => decode_eq_badKlen_iff, fun _ _ => issue_of_decode_badKlen⟩

/-- Settles O18: the sequencer rejects the word before it is decoded. -/
theorem everyWordIsRejectedWhileBusy : Obligations.EveryWordIsRejectedWhileBusy := fun _ _ c => issue_of_busy c

/-- Settles O19: SEQ decides first, then the decoder's answer, and the KEYED flags last. -/
theorem rejectionPriority : Obligations.RejectionPriority :=
  ⟨fun _ c => ⟨issue_of_seq_ne_idle c, issue_of_decode_illegal, issue_of_decode_badKlen, fun _ => issue_of_unkeyed,
      fun _ => issue_of_keyed⟩,
    fun _ hbusy _ => issue_of_seq_ne_idle _ hbusy, fun _ hidle _ => issue_of_decode_illegal hidle (by decide)⟩

/-- A command that needs no schedule leaves every ERRCODE but NOT_KEYED: it is accepted, or its KLEN is unsupported. -/
theorem issue_encode_errcode_ne_notKeyed {s t : State} {i : Instr} (hidle : s.seq = .idle) (hcode : s.errcode ≠ .notKeyed)
    (hkeyed : ¬ Unkeyed i s) (h : issue (encode i) s = .next t) : t.errcode ≠ .notKeyed := by
  rcases decode_encode_cases i with hdecode | hdecode
  · obtain ⟨f, _, hissue⟩ := issue_of_keyed hidle hdecode hkeyed
    cases h.symm.trans hissue
    exact hcode
  · cases h.symm.trans (issue_of_decode_badKlen hidle hdecode)
    exact cmdError_errcode_ne hcode (by decide)

/-- Only the four cipher commands need a schedule (R264). -/
theorem not_unkeyed {i : Instr} (s : State) (hse : i ≠ .sqEnc) (hsd : i ≠ .sqDec) (hte : i ≠ .tfEnc) (htd : i ≠ .tfDec) :
    ¬ Unkeyed i s := by
  cases i with
  | sqEnc => exact absurd rfl hse
  | sqDec => exact absurd rfl hsd
  | tfEnc => exact absurd rfl hte
  | tfDec => exact absurd rfl htd
  | _ => exact id

/-- Settles O20: the words of the four cipher commands decode to them, and no other command needs a schedule. -/
theorem cipherCommandsNeedASchedule : Obligations.CipherCommandsNeedASchedule := by
  refine ⟨?square, ?twofish, fun s t i hidle hcode hse hsd hte htd =>
    issue_encode_errcode_ne_notKeyed hidle hcode (not_unkeyed s hse hsd hte htd)⟩
  case square | twofish =>
    rintro s hidle hkeyed i (rfl | rfl) <;> exact issue_of_unkeyed hidle (decode_encode trivial) hkeyed

/-! ### Nothing stops the core (R268, R269, R288) -/

/-- Settles O7: the step is the commit event or the oldest event of the order, and each answers a next state. -/
theorem everyStepAnswersANextState : Obligations.EveryStepAnswersANextState := by
  intro s
  cases hin : s.inputs with
  | nil =>
    rw [step_of_inputs_nil hin]
    exact commitEvent_answers s
  | cons e rest =>
    rw [step_of_inputs_cons hin]
    exact perform_answers e { s with inputs := rest }

end Sys2Proof.Machine
end

section
/-! Reset (spec/70_reset_and_hazards.md R290): what a change of RST does as one step, and what an access does while RST is
held. -/

namespace Sys2Proof.Machine

/-! ### The steps that change RST -/

/-- No field of the state before is in the state after but the events still to come: SEQ and its snapshot are dropped
with the rest. -/
theorem step_of_rst_asserted {s : State} {rest : List Event} (hin : s.inputs = .rst true :: rest) :
    step s = .next { State.reset with rst := true, inputs := rest } :=
  step_of_inputs_cons hin

theorem step_of_rst_released {s : State} {rest : List Event} (hin : s.inputs = .rst false :: rest) :
    step s = .next { s with rst := false, inputs := rest } :=
  step_of_inputs_cons hin

/-- A pulse of RST is two steps to the reset state. -/
theorem run_two_of_rst_pulse {s : State} {rest : List Event} (hin : s.inputs = .rst true :: .rst false :: rest) :
    Sys2Proof.core.run 2 s = .next { State.reset with inputs := rest } :=
  calc Sys2Proof.core.run 2 s
    _ = Sys2Proof.core.run 1 { State.reset with rst := true, inputs := .rst false :: rest } :=
      run_succ_next (step_of_rst_asserted hin)
    _ = Sys2Proof.core.run 0 { State.reset with inputs := rest } := run_succ_next (step_of_rst_released rfl)
    _ = .next { State.reset with inputs := rest } := rfl

/-! ### Accesses while RST is held -/

theorem perform_hostRead_of_rst {s : State} (hrst : s.rst = true) (off : BitVec 8) (size : Nat) :
    perform (.hostRead off size) s = .next (s.respond .unanswered) := by
  have hanswer : s.readAnswer off size = .unanswered := if_pos hrst
  rw [perform_hostRead, hanswer]

theorem perform_hostWrite_of_rst {s : State} (hrst : s.rst = true) (off : BitVec 8) (size : Nat) (v : Word) :
    perform (.hostWrite off size v) s = .next (s.respond .unanswered) :=
  if_pos hrst

/-- Settles O34: the assertion keeps nothing, a held RST leaves every access unanswered, and the release ends the pulse
in the reset state. -/
theorem resetAbandonsTheCommandAndZeroesTheCore : Obligations.ResetAbandonsTheCommandAndZeroesTheCore :=
  ⟨fun _ _ => step_of_rst_asserted,
    fun _ off size v hrst => ⟨perform_hostRead_of_rst hrst off size, perform_hostWrite_of_rst hrst off size v⟩,
    fun _ _ => run_two_of_rst_pulse⟩

end Sys2Proof.Machine
end
